-- ==== Sys2Proof/Word.lean ====
section
/-!
DEFINITION. The words of the CP212's serial sides: the byte of the station frames and of the
configuration image (spec file 10, "Formats"; spec file 11, R194). Every quantity that the manual
counts or measures (weights, temperatures, doses, serials) is a Nat or an Int, never a bit vector.
-/

namespace Sys2Proof

/-- One byte of a station frame or of the configuration image. -/
abbrev Byte := BitVec 8

/-- Cell time: an unsigned 32-bit count of seconds that wraps to 0 after its top value (R197). -/
abbrev CellTime := BitVec 32

end Sys2Proof
end

