-- ==== Sys2Proof/Containers.lean ====
section
/-!
DEFINITION. Containers with a fixed number of named places, for the things the CP212 has a fixed
number of: four ports, four zones to a heater group, sixteen nodes, two bays, three load channels,
two work areas, four roles. Each has `get` and `set`; their laws are in Sys2Proof/Laws/Containers.lean.
-/

namespace Sys2Proof

/-- An index from 0 to 3: a station port P0 to P3, a zone within its group, a temperature channel. -/
inductive Ix4 where
  | n0 | n1 | n2 | n3
deriving DecidableEq, Repr

def Ix4.toNat : Ix4 → Nat
  | .n0 => 0 | .n1 => 1 | .n2 => 2 | .n3 => 3

/-- The index a number from 0 to 3 names. -/
def Ix4.ofNat? : Nat → Option Ix4
  | 0 => some .n0 | 1 => some .n1 | 2 => some .n2 | 3 => some .n3 | _ => none

def Ix4.all : List Ix4 := [.n0, .n1, .n2, .n3]

/-- Four things of one kind, in order. -/
structure Quad (α : Type) where
  c0 : α
  c1 : α
  c2 : α
  c3 : α
deriving DecidableEq, Repr

def Quad.get {α : Type} (q : Quad α) : Ix4 → α
  | .n0 => q.c0 | .n1 => q.c1 | .n2 => q.c2 | .n3 => q.c3

def Quad.set {α : Type} (q : Quad α) (i : Ix4) (x : α) : Quad α :=
  match i with
  | .n0 => { q with c0 := x } | .n1 => { q with c1 := x }
  | .n2 => { q with c2 := x } | .n3 => { q with c3 := x }

def Quad.all {α : Type} (x : α) : Quad α := ⟨x, x, x, x⟩

def Quad.ofFn {α : Type} (f : Ix4 → α) : Quad α := ⟨f .n0, f .n1, f .n2, f .n3⟩

def Quad.toList {α : Type} (q : Quad α) : List α := [q.c0, q.c1, q.c2, q.c3]

/-- The station ports P0 to P3. -/
abbrev PortId := Ix4

abbrev PerPort (α : Type) := Quad α

/-- An index from 0 to 15: a recipe slot, or a sensor node address less one. -/
structure Ix16 where
  hi : Ix4
  lo : Ix4
deriving DecidableEq, Repr

def Ix16.toNat (i : Ix16) : Nat := 4 * i.hi.toNat + i.lo.toNat

/-- The index a number from 0 to 15 names. -/
def Ix16.ofNat? (n : Nat) : Option Ix16 :=
  match Ix4.ofNat? (n / 4), Ix4.ofNat? (n % 4) with
  | some h, some l => some ⟨h, l⟩
  | _, _ => none

/-- All sixteen indices, ascending. -/
def Ix16.all : List Ix16 := Ix4.all.flatMap fun h => Ix4.all.map fun l => ⟨h, l⟩

/-- Sixteen things of one kind, in order. -/
abbrev Hex (α : Type) := Quad (Quad α)

def Hex.get {α : Type} (q : Hex α) (i : Ix16) : α := (Quad.get q i.hi).get i.lo

def Hex.set {α : Type} (q : Hex α) (i : Ix16) (x : α) : Hex α :=
  Quad.set q i.hi ((Quad.get q i.hi).set i.lo x)

def Hex.all {α : Type} (x : α) : Hex α := Quad.all (Quad.all x)

def Hex.ofFn {α : Type} (f : Ix16 → α) : Hex α :=
  Quad.ofFn fun h => Quad.ofFn fun l => f ⟨h, l⟩

/-- The two bays of the shuttle. -/
inductive Bay where
  | a | b
deriving DecidableEq, Repr

def Bay.other : Bay → Bay
  | .a => .b | .b => .a

structure PerBay (α : Type) where
  a : α
  b : α
deriving DecidableEq, Repr

def PerBay.get {α : Type} (x : PerBay α) : Bay → α
  | .a => x.a | .b => x.b

def PerBay.set {α : Type} (x : PerBay α) (i : Bay) (v : α) : PerBay α :=
  match i with
  | .a => { x with a := v } | .b => { x with b := v }

/-- The three groups of four heat zones: U1 to U4, A1 to A4, B1 to B4 (spec file 00, Numbering). -/
inductive ZoneGroup where
  | upper | bayA | bayB
deriving DecidableEq, Repr

/-- A heat zone: its group and its place in the group. -/
structure ZoneId where
  grp : ZoneGroup
  ix : Ix4
deriving DecidableEq, Repr

/-- The zone number, 0 to 11: upper 0 to 3, bay A 4 to 7, bay B 8 to 11. -/
def ZoneId.number (z : ZoneId) : Nat :=
  (match z.grp with | .upper => 0 | .bayA => 4 | .bayB => 8) + z.ix.toNat

/-- All twelve zones by ascending number. -/
def ZoneId.all : List ZoneId :=
  (Ix4.all.map fun i => ⟨.upper, i⟩) ++ (Ix4.all.map fun i => ⟨.bayA, i⟩)
    ++ (Ix4.all.map fun i => ⟨.bayB, i⟩)

/-- The zone a number from 0 to 11 names. -/
def ZoneId.ofNat? (n : Nat) : Option ZoneId := ZoneId.all.find? fun z => z.number == n

structure Zones (α : Type) where
  upper : Quad α
  bayA : Quad α
  bayB : Quad α
deriving DecidableEq, Repr

def Zones.get {α : Type} (x : Zones α) (z : ZoneId) : α :=
  match z.grp with
  | .upper => x.upper.get z.ix | .bayA => x.bayA.get z.ix | .bayB => x.bayB.get z.ix

def Zones.set {α : Type} (x : Zones α) (z : ZoneId) (v : α) : Zones α :=
  match z.grp with
  | .upper => { x with upper := x.upper.set z.ix v }
  | .bayA => { x with bayA := x.bayA.set z.ix v }
  | .bayB => { x with bayB := x.bayB.set z.ix v }

def Zones.ofFn {α : Type} (f : ZoneId → α) : Zones α :=
  ⟨Quad.ofFn fun i => f ⟨.upper, i⟩, Quad.ofFn fun i => f ⟨.bayA, i⟩, Quad.ofFn fun i => f ⟨.bayB, i⟩⟩

def Zones.all {α : Type} (x : α) : Zones α := ⟨Quad.all x, Quad.all x, Quad.all x⟩

/-- The twelve values by ascending zone number. -/
def Zones.toList {α : Type} (x : Zones α) : List α :=
  x.upper.toList ++ x.bayA.toList ++ x.bayB.toList

/-- The four station roles (spec file 00, Application). -/
inductive Role where
  | press | loader | extract | line
deriving DecidableEq, Repr

structure PerRole (α : Type) where
  press : α
  loader : α
  extract : α
  line : α
deriving DecidableEq, Repr

def PerRole.get {α : Type} (x : PerRole α) : Role → α
  | .press => x.press | .loader => x.loader | .extract => x.extract | .line => x.line

/-- The load channels: W (scale), FA and FB (ejector force of bay A and of bay B) (R86). -/
inductive Chan where
  | w | fa | fb
deriving DecidableEq, Repr

structure PerChan (α : Type) where
  w : α
  fa : α
  fb : α
deriving DecidableEq, Repr

def PerChan.get {α : Type} (x : PerChan α) : Chan → α
  | .w => x.w | .fa => x.fa | .fb => x.fb

def PerChan.set {α : Type} (x : PerChan α) (c : Chan) (v : α) : PerChan α :=
  match c with
  | .w => { x with w := v } | .fa => { x with fa := v } | .fb => { x with fb := v }

/-- The two work areas (R125). -/
inductive Area where
  | press | load
deriving DecidableEq, Repr

structure PerArea (α : Type) where
  press : α
  load : α
deriving DecidableEq, Repr

def PerArea.get {α : Type} (x : PerArea α) : Area → α
  | .press => x.press | .load => x.load

def PerArea.set {α : Type} (x : PerArea α) (r : Area) (v : α) : PerArea α :=
  match r with
  | .press => { x with press := v } | .load => { x with load := v }

end Sys2Proof
end

