-- ==== Sys2Proof/Syntax.lean ====
section
/-!
DEFINITION. The commands of the CP212: one constructor of `Instr` for each row of
spec/opcode_table.json. The rows are the part's steps, each whole and indivisible (spec file 95).
Three kinds: the frame events of a station port, the requests as their owning block acts on them
(each carries the port it was routed from and its parameters as the frame carried them, R178), and
the events that no station sends (timers, the heat period, the sensor link, supplies, clock).
-/

namespace Sys2Proof

/-- The fields of a RECIPE WRITE as they are carried, in the order and the widths of R26. -/
structure RawRecipe where
  number : BitVec 16
  /-- U1 to U4, signed. -/
  upper : Quad (BitVec 16)
  /-- M1 to M4, signed. -/
  mould : Quad (BitVec 16)
  readyBand : BitVec 16
  /-- signed -/
  overTemp : BitVec 16
  /-- signed -/
  cureRef : BitVec 16
  cureTarget : BitVec 16
  minClosed : BitVec 16
  maxClosed : BitVec 16
  overstay : BitVec 16
  chargeTarget : BitVec 32
  tolLow : BitVec 16
  tolHigh : BitVec 16
  maxPieces : Byte
  minPressForce : BitVec 16
  demouldLimit : BitVec 16
  abortLimit : BitVec 16
  ejectTimeout : Byte
  lowerInterval : BitVec 16
  upperInterval : BitVec 16
deriving DecidableEq, Repr

/-- The status a TEMP node reports with a temperature (R164). -/
inductive TempStatus where
  | ok | open | range
deriving DecidableEq, Repr

/-- A temperature channel's sample: a signed value in 0.1 °C and its status (R164). -/
structure TempSample where
  value : Int
  status : TempStatus
deriving DecidableEq, Repr

/-- A load sample: a signed 24-bit count and whether its status is OVERRANGE (R86, R164). -/
structure LoadSample where
  count : BitVec 24
  overrange : Bool
deriving DecidableEq, Repr

/-- The data of a node's reply: the kind is the kind that replies (R167). -/
inductive NodeData where
  | temp (samples : Quad TempSample)
  | load (sample : LoadSample)
deriving DecidableEq, Repr

/-- A complete reply on the sensor link, as R167 judges it: the bytes that precede its check, the
check it carries, and what those bytes spell: whether their number fits the reply's kind, the
replying node's address, and its kind and data. The manual gives no byte layout of a reply, so what
the bytes spell stands beside them as fields (notes/assumptions/3). -/
structure NodeReply where
  body : List Byte
  check : BitVec 16
  fits : Bool
  address : Byte
  data : NodeData
deriving DecidableEq, Repr

/-- A select held asserted as the frame timeout expires (R176): the port, and whether a clock edge has
come since select was asserted. Without one there is no frame yet. -/
structure HeldSelect where
  port : PortId
  clocked : Bool
deriving DecidableEq, Repr

/-- One constructor per row of spec/opcode_table.json, in the table's order. -/
inductive Instr where
  | frameStart (p : PortId)
  /-- The whole bytes clocked in while select was asserted, and the bits left over after them. -/
  | frameEnd (p : PortId) (bytes : List Byte) (spareBits : Fin 8)
  | frameTimeout (held : HeldSelect)
  | unknownCode (p : PortId) (code : Byte) (params : List Byte)
  | resultReturn (p : PortId)
  | noticeAge (p : PortId)
  | silenceTimerExpiry (p : PortId)
  | nop (p : PortId)
  | identify (p : PortId)
  | readNotice (p : PortId)
  | subscribe (p : PortId) (level : Byte) (codes : List Byte)
  /-- Either no parameter, or a port number and the flag codes to clear. -/
  | portStatus (p : PortId) (named : Option (Byte × List Byte))
  | readShot (p : PortId) (bay part : Byte)
  | readBay (p : PortId) (bay : Byte)
  | readZone (p : PortId) (zone : Byte)
  | readCell (p : PortId)
  | recipeRead (p : PortId) (slot : Byte)
  | historyFind (p : PortId) (serial : BitVec 32) (page : Byte)
  | readNode (p : PortId) (address : Byte)
  | holdAdd (p : PortId) (scope reason : Byte)
  | holdRemove (p : PortId) (scope reason : Byte)
  | holdClear (p : PortId)
  | reportPress (p : PortId) (state : Byte) (force : Option (BitVec 16))
  | closeRequest (p : PortId)
  | shuttleRequest (p : PortId) (target : Byte)
  | shuttleDone (p : PortId) (position : Byte)
  | areaEnter (p : PortId) (area : Byte)
  | areaLeave (p : PortId) (area : Byte)
  | forceLeave (p : PortId) (area : Byte)
  | chargeBegin (p : PortId) (bay : Byte)
  | weighPiece (p : PortId) (bay : Byte)
  | weighCancel (p : PortId)
  | removePiece (p : PortId) (bay : Byte)
  | discardCharge (p : PortId) (bay : Byte)
  | chargeDone (p : PortId) (bay : Byte)
  | tare (p : PortId)
  | ejectBegin (p : PortId) (bay : Byte)
  | ejectEnd (p : PortId) (bay : Byte)
  | partTaken (p : PortId) (bay condition : Byte)
  | releaseApplied (p : PortId) (target : Byte)
  | recipeWrite (p : PortId) (slot : Byte) (fields : RawRecipe)
  | recipeErase (p : PortId) (slot : Byte)
  | bayBind (p : PortId) (bay : Byte) (mould : BitVec 16) (slot : Byte)
  | bayUnbind (p : PortId) (bay : Byte)
  | mouldChecked (p : PortId) (bay : Byte)
  | shotAbort (p : PortId) (bay : Byte)
  | serialBase (p : PortId) (value : BitVec 32)
  | heatMode (p : PortId) (code : Byte)
  | park (p : PortId)
  | zoneEnable (p : PortId) (zone : Byte)
  | zoneDisable (p : PortId) (zone : Byte)
  | historyNext (p : PortId) (page : Byte)
  | historyAck (p : PortId) (serial : BitVec 32)
  | dispositionSet (p : PortId) (serial : BitVec 32) (disposition : Byte)
  | clockSet (p : PortId) (time : CellTime)
  | configSet (p : PortId) (tag : Byte) (data : List Byte)
  | restart (p : PortId)
  | heatPeriod
  | idleTimerExpiry
  | roundBegin
  | pollReply (reply : NodeReply)
  | replyTimeout
  | weighTimerExpiry
  | ejectionTimerExpiry
  | pfwarnAsserted
  | pfwarnDeasserted
  | mainLoss
  | retainLoss
  | mainRise
  | resetAsserted
  | resetReleased
  /-- The bytes the configuration memory delivers from address 0, up to its first byte read that it
  does not acknowledge (R194): an empty list is a memory that never acknowledges. -/
  | configLoadEnd (image : List Byte)
  | clk32Stopped
  | clk32Resumed
  | heaterSwitchOff (zone : ZoneId)
  | cellTimeSecond
deriving DecidableEq, Repr

end Sys2Proof
end

