-- ==== Sys2Proof/Machine/Types.lean ====
section
/-!
DEFINITION. The plain data the machine's state is made of: one type for each record the chapters
describe, with the manual's own field names, and the inductives for every set of named values.
Where the manual numbers a set (stages, verdicts, codes), the numbers stand in Machine/Codes.lean.
-/

namespace Sys2Proof.Machine

open Sys2Proof

/-! ### Shots (spec file 01) -/

/-- The stage of an open shot; an empty slot (stage NONE) is an absent context (R1, R6). -/
inductive Stage where
  | charging | charged | closed | cured | opened | ejected
deriving DecidableEq, Repr

/-- The eighteen exceptions of R9, in the order of their numbers. -/
inductive Exc where
  | chargeDiscarded | powerLimited | overstay | timeUncertain | cureBlind | undercure | overtemp
  | forceLow | sticking | ejectTimeout | forceBlind | stationSilent | earlyOpen
  | closedUnpermitted | ejectOverforce | partDamaged | powerInterrupted | aborted
deriving DecidableEq, Repr

/-- The severity of an exception (R9). -/
inductive Severity where
  | info | hold | reject
deriving DecidableEq, Repr

/-- The verdict of a shot (R10). -/
inductive Verdict where
  | accept | hold | reject
deriving DecidableEq, Repr

/-- The outcome a filing cause fixes (R20). -/
inductive ShotOutcome where
  | completed | aborted | interrupted
deriving DecidableEq, Repr

/-- A cell time with its uncertain flag (R3). -/
structure Timestamp where
  time : CellTime
  uncertain : Bool
deriving DecidableEq, Repr

/-- One weighed piece of a charge (R2, R103). -/
structure Piece where
  number : Nat
  net : Int
  captured : Timestamp
deriving DecidableEq, Repr

/-- The context of an open shot: the fields of R2. The exception set is kept as its members by
ascending number, each once. -/
structure Shot where
  serial : Nat
  bay : Bay
  recipeSlot : Ix16
  recipeNumber : Nat
  recipeRevision : Nat
  mouldId : Nat
  stage : Stage
  pieces : List Piece
  chargeTotal : Int
  discards : Nat
  dose : Nat
  closedDuration : Nat
  minCureTemp : Option Int
  maxZoneTemp : Option Int
  pressPeak : Option Nat
  demouldPeak : Option Nat
  exceptions : List Exc
  openedAt : Timestamp
  chargedAt : Option Timestamp
  closedAt : Option Timestamp
  curedAt : Option Timestamp
  pressOpenedAt : Option Timestamp
  ejectedAt : Option Timestamp
deriving DecidableEq, Repr

/-! ### Recipes and moulds (spec file 02) -/

/-- The fields of a VALID recipe slot as stored (R26). -/
structure Recipe where
  number : Nat
  upper : Quad Int
  mould : Quad Int
  readyBand : Int
  overTemp : Int
  cureRef : Int
  cureTarget : Nat
  minClosed : Nat
  maxClosed : Nat
  overstay : Nat
  chargeTarget : Nat
  tolLow : Nat
  tolHigh : Nat
  maxPieces : Nat
  minPressForce : Nat
  demouldLimit : Nat
  abortLimit : Nat
  ejectTimeout : Nat
  lowerInterval : Nat
  upperInterval : Nat
deriving DecidableEq, Repr

/-- A recipe table slot (R25): EMPTY when `recipe` is absent. The revision of a VALID slot is its
revision counter: RECIPE WRITE sets both together and nothing changes one without the other. -/
structure RecipeSlot where
  recipe : Option Recipe
  revision : Nat
  inUse : Nat
deriving DecidableEq, Repr

/-- A bay record (R32). Mould ID 0 means unbound. -/
structure BayRecord where
  mouldId : Nat
  recipeSlot : Option Ix16
  shotsOnBinding : Nat
  lowerCount : Nat
  mouldCheck : Bool
deriving DecidableEq, Repr

/-! ### Heat (spec file 03) -/

/-- The five zone states of R43. -/
inductive ZoneState where
  | off | idle | ramp | regulate | fault
deriving DecidableEq, Repr

/-- A zone record (R41), but for its number, class and bay, which its place fixes. -/
structure Zone where
  enabled : Bool
  state : ZoneState
  target : Option Int
  effective : Option Int
  rampAcc : Nat
  latest : Option Int
  validNow : Bool
  invalidCount : Nat
  validCount : Nat
  integrator : Int
  requested : Nat
  granted : Nat
  limited : Bool
  atTemp : Bool
deriving DecidableEq, Repr

/-- The heat mode (R64). -/
inductive HeatMode where
  | run | setback | setbackAuto | off
deriving DecidableEq, Repr

/-- The heat block (R41, R64, R66, R71): the zone records, the heater lines HT0 to HT11, the mode,
the park-pending flag, the idle timer count, and the three sums of the last arbitration. -/
structure Heat where
  zones : Zones Zone
  lines : Zones Bool
  mode : HeatMode
  parkPending : Bool
  idleTimer : Nat
  sum1 : Nat
  sum2 : Nat
  totalGranted : Nat
deriving DecidableEq, Repr

/-! ### Load channels and the weigh/tare slot (spec file 05) -/

/-- A load channel's queue and its arrivals since emptied (R86). Its parameters stand in `Cfg`. -/
structure Channel where
  queue : List LoadSample
  arrivals : Nat
deriving DecidableEq, Repr

/-- The weigh/tare slot (R93). -/
inductive WeighSlot where
  | none
  | weigh (bay : Bay)
  | tare (by_ : Role)
deriving DecidableEq, Repr

/-- The slot, the weigh timer with the duration it was started with, and the tare (R93). -/
structure Weigh where
  slot : WeighSlot
  timer : Option Nat
  tare : Int
deriving DecidableEq, Repr

/-! ### Permits (spec file 06) -/

inductive PressState where
  | unknown | open | closing | closed | opening
deriving DecidableEq, Repr

inductive Position where
  | unknown | aIn | bIn | moving
deriving DecidableEq, Repr

inductive Scope where
  | cell
  | bay (which : Bay)
deriving DecidableEq, Repr

inductive Holder where
  | station (r : Role)
  | self
deriving DecidableEq, Repr

/-- An entry of the hold set (R122). -/
structure Hold where
  holder : Holder
  scope : Scope
  reason : Nat
deriving DecidableEq, Repr

/-- Which of the part's own entries are present (R122): each is present or absent, never twice. -/
structure SelfHolds where
  pressSilent : Bool
  powerWarn : Bool
  mouldCheck : PerBay Bool
deriving DecidableEq, Repr

/-- The stations that may claim a work area (R125). -/
inductive AreaUser where
  | loader | extract
deriving DecidableEq, Repr

structure AreaRecord where
  holder : Option AreaUser
  waiter : Option AreaUser
deriving DecidableEq, Repr

/-- The permit block (R108). A shuttle grant names the bay its target position puts under the
press. The station entries of the hold set stand in the order of their addition. -/
structure Permit where
  press : PressState
  position : Position
  closeGrant : Option Bay
  shuttleGrant : Option Bay
  stationHolds : List Hold
  selfHolds : SelfHolds
  areas : PerArea AreaRecord
deriving DecidableEq, Repr

/-! ### Demoulding (spec file 07) -/

inductive EjectState where
  | idle | active | stopped
deriving DecidableEq, Repr

inductive StopCause where
  | none | overforce | forceBlind | stationSilent | areaReleased
deriving DecidableEq, Repr

/-- The ejection record (R133). -/
structure Eject where
  state : EjectState
  bay : Option Bay
  serial : Option Nat
  peak : Nat
  cause : StopCause
  timer : Option Nat
deriving DecidableEq, Repr

/-! ### History (spec file 08) -/

inductive Disposition where
  | accepted | rejected
deriving DecidableEq, Repr

/-- A history record (R148): the filed shot, its `stage` being the stage reached, and the fields
the history block adds. -/
structure Record where
  filingNo : Nat
  shot : Shot
  outcome : ShotOutcome
  verdict : Verdict
  disposition : Option Disposition
  dispositionAt : Option Timestamp
  exported : Bool
  amended : Bool
deriving DecidableEq, Repr

/-- The history block (R147). `slots` lists the used slots from slot 0 up: a filing takes the
lowest NEVER_USED slot while there is one and a used slot is never emptied (R147, R150), so the
slots from the list's length to 511 are exactly the NEVER_USED ones. -/
structure History where
  slots : List Record
  filingCounter : Nat
  pending : Nat
  armed : Bool
deriving DecidableEq, Repr

/-! ### Sensor link (spec file 09) -/

inductive NodeKind where
  | unused | temp | load
deriving DecidableEq, Repr

inductive NodeState where
  | unused | waiting | ok | missing
deriving DecidableEq, Repr

inductive MissReason where
  | timeout | check | wrongNode
deriving DecidableEq, Repr

/-- A temperature channel of a node: its latest sample and its fresh flag (R164). -/
structure TempChannel where
  latest : Option TempSample
  fresh : Bool
deriving DecidableEq, Repr

/-- A node table entry (R164); its kind stands in `Cfg`. -/
structure Node where
  state : NodeState
  misses : Nat
  lastMiss : Option MissReason
  channels : Quad TempChannel
deriving DecidableEq, Repr

/-- The node table (address n at index n - 1) and the node being polled, absent while the link is
idle between two rounds (R166, R167). -/
structure Sensor where
  nodes : Hex Node
  polling : Option Ix16
deriving DecidableEq, Repr

/-! ### Configuration (spec file 11) -/

inductive RecoveryPolicy where
  | off | setback | previous
deriving DecidableEq, Repr

/-- The gains of one zone class (R42). -/
structure Gains where
  kp : Nat
  ki : Nat
deriving DecidableEq, Repr

/-- Zero, span and window of a load channel (R87). -/
structure ChannelCal where
  zero : Int
  span : Int
  window : Nat
deriving DecidableEq, Repr

/-- A place on the sensor link that a zone draws from: a node and one of its channels (R165). -/
structure ZoneSource where
  node : Ix16
  channel : Ix4
deriving DecidableEq, Repr

/-- The configuration items in use, with the three configuration flags (R194). -/
structure Cfg where
  roles : PerPort Role
  silence : PerRole Nat
  frameTimeout : Nat
  reportErrors : Bool
  ratings : Zones Nat
  budget : Nat
  upperGains : Gains
  mouldGains : Gains
  rampLimit : Nat
  setbackUpper : Int
  setbackMould : Int
  cutback : Int
  idleLimit : Nat
  enabledAtStart : Zones Bool
  recovery : RecoveryPolicy
  rateTable : Hex Nat
  nodeKinds : Hex NodeKind
  zoneMap : Zones (Option ZoneSource)
  loadMap : PerChan (Option Ix16)
  replyTimeout : Nat
  channels : PerChan ChannelCal
  bands : PerChan Nat
  weighTimeout : Nat
  capacity : Int
  minPiece : Int
  isDefault : Bool
  tableDefault : Bool
  locked : Bool
deriving DecidableEq, Repr

/-! ### Station ports (spec file 10) -/

/-- The result codes of R179. -/
inductive ResultCode where
  | ok | pending | granted | cancelled | empty | busy | full | invalid | unknown | notPermitted
  | badFrame | locked
  | wrongStage | notOut | notBound | inUse | bound | serialUnset | serialExhausted | releaseDue
  | parking | heatSetback | heatOff | heatMode | notAtTemp
  | historyFull | notFound | mismatch | alreadySet | under | over
  | notHolder | holdsOther | areaRequired | areaOccupied | samePosition | pressNotOpen
  | grantActive | holdActive | chargeOpen | notCharged | positionUnknown
deriving DecidableEq, Repr

/-- The state of the serial counter as IDENTIFY reports it (R11). -/
inductive SerialState where
  | unset | ready | exhausted
deriving DecidableEq, Repr

/-- A bay's place at the present position (R39). -/
inductive Place where
  | isIn | isOut | neither
deriving DecidableEq, Repr

/-- One item of a reply's data. The rules list what a reply carries and give no bytes for it
(notes/assumptions/2), so an item is a number, a flag, an absent value, or one of the manual's named
values that it gives no number. -/
inductive Field where
  | num (v : Int)
  | flag (v : Bool)
  | absent
  | bay (which : Bay)
  | place (p : Place)
  | holder (h : Holder)
  | scope (s : Scope)
  | area (a : Option AreaUser)
  | zoneState (s : ZoneState)
  | zoneUpper (isUpper : Bool)
  | budgetClass (class1 : Bool)
  | nodeKind (k : NodeKind)
  | tempStatus (s : TempStatus)
  | serialState (s : SerialState)
deriving DecidableEq, Repr

/-- A reply: its result code and its data in the order the owning rule lists them. -/
structure Reply where
  code : ResultCode
  data : List Field
deriving DecidableEq, Repr

/-- The notice codes of R182. -/
inductive NoticeCode where
  | stationLost | zoneFault | unpermittedClose | areaForced | ejectOverforce | forceBlind
  | ejectTimeout | powerWarn | retainLost
  | cured | closeRevoked | shuttleRevoked | weighDone | overload | pieceTooLight | weighUnstable
  | weighFault | weighCancelled | tareDone | tareFailed | areaGranted | areaCancelled | parked
  | parkCancelled
  | shotStage | shotFiled | releaseDue | heatMode | zoneRecovered | pressState | shuttlePosition
  | holdChanged
  | started | nodeState | historyNearFull | portError
deriving DecidableEq, Repr

/-- The class of a notice (R182). -/
inductive NoticeClass where
  | alarm | completion | status
deriving DecidableEq, Repr

/-- A notice (R182): its class follows from its code; a value no rule names is 0. -/
structure Notice where
  code : NoticeCode
  bay : Option Bay := none
  serial : Option Nat := none
  v1 : Int := 0
  v2 : Int := 0
deriving DecidableEq, Repr

/-- A notice in a port's queue. `aged` says that it has been queued for 100 ms or longer: the one
thing the part reads of the time of arrival that R182 keeps (R186, notes/assumptions/4). -/
structure Queued where
  notice : Notice
  aged : Bool
deriving DecidableEq, Repr

/-- The three reply kinds of the status byte (R177). -/
inductive ReplyKind where
  | idle | ready | shortWait
deriving DecidableEq, Repr

/-- The frame in progress on a port: the reply kind its status byte showed, the bytes the part
clocks out in it (00h after them), whether its select has outlasted the frame timeout, and whether
its end is still to be judged: not for a frame that began within a start (R177), and no more for one
that the frame timeout has judged (R176). -/
structure Frame where
  kind : ReplyKind
  out : List Byte
  expired : Bool
  judged : Bool
deriving DecidableEq, Repr

/-- The reply buffer of a port (R174). A buffer in PROCESSING keeps the request it routed and, once
the owner has acted, the result that is on its way back. -/
inductive Buffer where
  | idle
  | processing (request : Instr) (result : Option Reply)
  | ready (reply : Reply)
deriving DecidableEq, Repr

inductive PortState where
  | offline | online | lost
deriving DecidableEq, Repr

/-- A port error flag with its reported indication (R174, R180). -/
structure ErrorFlag where
  set : Bool
  reported : Bool
deriving DecidableEq, Repr

structure ErrorFlags where
  check : ErrorFlag
  length : ErrorFlag
  unknown : ErrorFlag
  permission : ErrorFlag
  noticeLost : ErrorFlag
deriving DecidableEq, Repr

/-- The five port error flags by name (R180). -/
inductive FlagName where
  | check | length | unknown | permission | noticeLost
deriving DecidableEq, Repr

/-- A port record (R174), but for its role, which the configuration fixes. The silence timer is
stopped (absent) or runs against the limit given. The subscription set is kept by ascending code. -/
structure Port where
  state : PortState
  timer : Option Nat
  buffer : Buffer
  queue : List Queued
  subs : List NoticeCode
  trigger : Nat
  flags : ErrorFlags
  frame : Option Frame
deriving DecidableEq, Repr

/-! ### Supplies and starts (spec file 11) -/

/-- The supply state (R191). -/
inductive Supply where
  | normal | warning
deriving DecidableEq, Repr

/-- The kind and cause of a start (R192). -/
inductive StartKind where
  | cold | mainLoss | resetLine | restart
deriving DecidableEq, Repr

/-- Whether the blocks act: stopped (MAIN absent or RESET asserted), within a start, or running. -/
inductive Phase where
  | stopped
  | starting (kind : StartKind)
  | running
deriving DecidableEq, Repr

/-- The levels the part sees on its supplies and inputs: MAIN at its working level, RESET asserted,
PFWARN asserted, CLK32 running (R190 to R192, R197). -/
structure Pins where
  main : Bool
  reset : Bool
  pfwarn : Bool
  clk32 : Bool
deriving DecidableEq, Repr

/-- Cell time and its two flags (R197). -/
structure Clock where
  time : CellTime
  derived : Bool
  uncertain : Bool
deriving DecidableEq, Repr

/-- The retained last heat mode: a mode and a park-pending indication (R190). -/
structure LastHeat where
  mode : HeatMode
  park : Bool
deriving DecidableEq, Repr

end Sys2Proof.Machine
end

