-- ==== Sys2Proof/Config.lean ====
section
/-!
DEFINITION. What an implementation of the CP212 fixes and the manual does not state. The one such
value is the byte layout of a reply's data: the rules list what each reply carries, and the manual
lays out in bytes only the request parameters (R178), the frame and the configuration image.
-/

namespace Sys2Proof

/-- FREE VALUE (notes/assumptions/2). The bytes that carry a reply's data items, which the manual
does not lay out. It has no body: nothing can be proved of it but what holds for every layout. -/
opaque Config.replyLayout : List Machine.Field → List Byte

end Sys2Proof
end

