-- ==== Sys2Proof/Decode.lean ====
section
/-!
DEFINITION. The bytes of the CP212's serial sides. Multi-byte fields (high byte first), the two
cyclic checks (R167, R176, R194), the request table (R178) with the decoder of a request's code and
parameters into a command and the encoder back, and the judgement of an inbound frame (R176). The
rows of spec/opcode_table.json carry no bits, so `decodeTableWord` reads no command from a word.
-/

namespace Sys2Proof

/-! ### Multi-byte fields, high byte first (R176, R178, R194) -/

def join16 (h l : Byte) : BitVec 16 := h ++ l

def join24 (a b c : Byte) : BitVec 24 := a ++ b ++ c

def join32 (a b c d : Byte) : BitVec 32 := a ++ b ++ c ++ d

def bytes16 (x : BitVec 16) : List Byte := [x.extractLsb' 8 8, x.extractLsb' 0 8]

def bytes32 (x : BitVec 32) : List Byte :=
  [x.extractLsb' 24 8, x.extractLsb' 16 8, x.extractLsb' 8 8, x.extractLsb' 0 8]

/-- The field at the head of a list of bytes, with the bytes after it. -/
def read8 : List Byte → Option (Byte × List Byte)
  | a :: l => some (a, l) | _ => none

def read16 : List Byte → Option (BitVec 16 × List Byte)
  | a :: b :: l => some (join16 a b, l) | _ => none

def read32 : List Byte → Option (BitVec 32 × List Byte)
  | a :: b :: c :: d :: l => some (join32 a b c d, l) | _ => none

def readQuad16 (l : List Byte) : Option (Quad (BitVec 16) × List Byte) := do
  let (a, l) ← read16 l
  let (b, l) ← read16 l
  let (c, l) ← read16 l
  let (d, l) ← read16 l
  return (⟨a, b, c, d⟩, l)

/-! ### The checks -/

/-- R176: one bit of the CRC-8 with polynomial x^8+x^2+x+1. -/
def crc8Bit (c : Byte) : Byte := if c.msb then (c <<< 1) ^^^ 0x07#8 else c <<< 1

def crc8Byte (c b : Byte) : Byte :=
  crc8Bit (crc8Bit (crc8Bit (crc8Bit (crc8Bit (crc8Bit (crc8Bit (crc8Bit (c ^^^ b))))))))

/-- R176: the frame check: initial value 00h, most significant bit first, no final inversion. -/
def crc8 (l : List Byte) : Byte := l.foldl crc8Byte 0x00#8

/-- R167, R194: one bit of the CRC-16 with polynomial x^16+x^12+x^5+1. -/
def crc16Bit (c : BitVec 16) : BitVec 16 := if c.msb then (c <<< 1) ^^^ 0x1021#16 else c <<< 1

def crc16Byte (c : BitVec 16) (b : Byte) : BitVec 16 :=
  let x := c ^^^ (b ++ 0x00#8)
  crc16Bit (crc16Bit (crc16Bit (crc16Bit (crc16Bit (crc16Bit (crc16Bit (crc16Bit x)))))))

/-- R167, R194: the check of a sensor reply and of the configuration image: initial value FFFFh; most
significant bit first and no final inversion, as for the frame check (notes/assumptions/5). -/
def crc16 (l : List Byte) : BitVec 16 := l.foldl crc16Byte 0xFFFF#16

/-! ### The request table (R178) -/

/-- The requests of R178, in the order of its table. -/
inductive ReqKind where
  | nop | identify | readNotice | subscribe | portStatus
  | readShot | readBay | readZone | readCell | recipeRead | historyFind | readNode
  | holdAdd | holdRemove
  | reportPress | closeRequest | shuttleRequest | shuttleDone
  | chargeBegin | weighPiece | weighCancel | removePiece | chargeDone | discardCharge | tare
  | areaEnter | areaLeave
  | ejectBegin | ejectEnd | partTaken | releaseApplied
  | recipeWrite | recipeErase | bayBind | bayUnbind | mouldChecked | shotAbort | serialBase
  | heatMode | park | zoneEnable | zoneDisable
  | historyNext | historyAck | dispositionSet
  | forceLeave | holdClear
  | clockSet | configSet | restart
deriving DecidableEq, Repr

/-- R178: the request codes. -/
def ReqKind.code : ReqKind → Byte
  | .nop => 0x00#8 | .identify => 0x01#8 | .readNotice => 0x02#8 | .subscribe => 0x03#8
  | .portStatus => 0x04#8
  | .readShot => 0x10#8 | .readBay => 0x11#8 | .readZone => 0x12#8 | .readCell => 0x13#8
  | .recipeRead => 0x14#8 | .historyFind => 0x15#8 | .readNode => 0x16#8
  | .holdAdd => 0x20#8 | .holdRemove => 0x21#8
  | .reportPress => 0x30#8 | .closeRequest => 0x31#8 | .shuttleRequest => 0x32#8
  | .shuttleDone => 0x33#8
  | .chargeBegin => 0x40#8 | .weighPiece => 0x41#8 | .weighCancel => 0x42#8
  | .removePiece => 0x43#8 | .chargeDone => 0x44#8 | .discardCharge => 0x45#8 | .tare => 0x46#8
  | .areaEnter => 0x50#8 | .areaLeave => 0x51#8
  | .ejectBegin => 0x60#8 | .ejectEnd => 0x61#8 | .partTaken => 0x62#8
  | .releaseApplied => 0x63#8
  | .recipeWrite => 0x70#8 | .recipeErase => 0x72#8 | .bayBind => 0x73#8 | .bayUnbind => 0x74#8
  | .mouldChecked => 0x75#8 | .shotAbort => 0x76#8 | .serialBase => 0x77#8
  | .heatMode => 0x80#8 | .park => 0x81#8 | .zoneEnable => 0x82#8 | .zoneDisable => 0x83#8
  | .historyNext => 0x90#8 | .historyAck => 0x91#8 | .dispositionSet => 0x93#8
  | .forceLeave => 0xA0#8 | .holdClear => 0xA1#8
  | .clockSet => 0xB0#8 | .configSet => 0xB1#8 | .restart => 0xB2#8

def ReqKind.all : List ReqKind :=
  ([.nop, .identify, .readNotice, .subscribe, .portStatus, .readShot, .readBay, .readZone, .readCell,
   .recipeRead, .historyFind, .readNode, .holdAdd, .holdRemove, .reportPress, .closeRequest,
   .shuttleRequest, .shuttleDone, .chargeBegin, .weighPiece, .weighCancel, .removePiece,
   .chargeDone, .discardCharge, .tare, .areaEnter, .areaLeave, .ejectBegin, .ejectEnd, .partTaken,
   .releaseApplied] : List ReqKind)
  ++ ([.recipeWrite, .recipeErase, .bayBind, .bayUnbind, .mouldChecked, .shotAbort, .serialBase,
   .heatMode, .park, .zoneEnable, .zoneDisable, .historyNext, .historyAck, .dispositionSet,
   .forceLeave, .holdClear, .clockSet, .configSet, .restart] : List ReqKind)

/-- R178, step 1: the request a code names; none for an unknown code. -/
def ReqKind.ofCode (c : Byte) : Option ReqKind := ReqKind.all.find? fun k => k.code == c

/-- R178: the roles that may send a request. -/
def ReqKind.roles : ReqKind → List Role
  | .nop | .identify | .readNotice | .subscribe | .portStatus | .readShot | .readBay | .readZone
  | .readCell | .recipeRead | .historyFind | .readNode | .holdAdd | .holdRemove =>
    [.press, .loader, .extract, .line]
  | .reportPress | .closeRequest | .shuttleRequest | .shuttleDone => [.press]
  | .chargeBegin | .weighPiece | .weighCancel | .removePiece | .chargeDone | .discardCharge =>
    [.loader]
  | .tare => [.loader, .line]
  | .areaEnter | .areaLeave => [.loader, .extract]
  | .ejectBegin | .ejectEnd | .partTaken => [.extract]
  | .releaseApplied => [.extract, .line]
  | .recipeWrite | .recipeErase | .bayBind | .bayUnbind | .mouldChecked | .shotAbort | .serialBase
  | .heatMode | .park | .zoneEnable | .zoneDisable | .historyNext | .historyAck | .dispositionSet
  | .forceLeave | .holdClear | .clockSet | .configSet | .restart => [.line]

/-! ### Parameters -/

/-- A request without parameters. -/
def fit0 (l : List Byte) (i : Instr) : Option Instr :=
  match l with
  | [] => some i | _ => none

/-- A request with one parameter byte. -/
def fit1 (l : List Byte) (f : Byte → Instr) : Option Instr :=
  match l with
  | [a] => some (f a) | _ => none

/-- A request with two parameter bytes. -/
def fit2 (l : List Byte) (f : Byte → Byte → Instr) : Option Instr :=
  match l with
  | [a, b] => some (f a b) | _ => none

/-- A request with one 32-bit parameter. -/
def fit4 (l : List Byte) (f : BitVec 32 → Instr) : Option Instr :=
  match l with
  | [a, b, c, d] => some (f (join32 a b c d)) | _ => none

/-- A request with a 32-bit parameter and a byte. -/
def fit5 (l : List Byte) (f : BitVec 32 → Byte → Instr) : Option Instr :=
  match l with
  | [a, b, c, d, e] => some (f (join32 a b c d) e) | _ => none

/-- R26: the fields of a RECIPE WRITE in their order and widths. -/
def readRecipe (l : List Byte) : Option (RawRecipe × List Byte) := do
  let (number, l) ← read16 l
  let (upper, l) ← readQuad16 l
  let (mould, l) ← readQuad16 l
  let (readyBand, l) ← read16 l
  let (overTemp, l) ← read16 l
  let (cureRef, l) ← read16 l
  let (cureTarget, l) ← read16 l
  let (minClosed, l) ← read16 l
  let (maxClosed, l) ← read16 l
  let (overstay, l) ← read16 l
  let (chargeTarget, l) ← read32 l
  let (tolLow, l) ← read16 l
  let (tolHigh, l) ← read16 l
  let (maxPieces, l) ← read8 l
  let (minPressForce, l) ← read16 l
  let (demouldLimit, l) ← read16 l
  let (abortLimit, l) ← read16 l
  let (ejectTimeout, l) ← read8 l
  let (lowerInterval, l) ← read16 l
  let (upperInterval, l) ← read16 l
  return (⟨number, upper, mould, readyBand, overTemp, cureRef, cureTarget, minClosed, maxClosed,
    overstay, chargeTarget, tolLow, tolHigh, maxPieces, minPressForce, demouldLimit, abortLimit,
    ejectTimeout, lowerInterval, upperInterval⟩, l)

/-- R178, step 3: the parameters of a request read into its command; none when their length does
not fit the request's form. -/
def ReqKind.parse (p : PortId) (k : ReqKind) (l : List Byte) : Option Instr :=
  match k with
  | .nop => fit0 l (.nop p)
  | .identify => fit0 l (.identify p)
  | .readNotice => fit0 l (.readNotice p)
  | .subscribe =>
    match l with
    | [] => none
    | a :: cs => if cs.length ≤ 8 then some (.subscribe p a cs) else none
  | .portStatus =>
    match l with
    | [] => some (.portStatus p none)
    | a :: cs => if cs.length ≤ 5 then some (.portStatus p (some (a, cs))) else none
  | .readShot => fit2 l (.readShot p)
  | .readBay => fit1 l (.readBay p)
  | .readZone => fit1 l (.readZone p)
  | .readCell => fit0 l (.readCell p)
  | .recipeRead => fit1 l (.recipeRead p)
  | .historyFind => fit5 l (.historyFind p)
  | .readNode => fit1 l (.readNode p)
  | .holdAdd => fit2 l (.holdAdd p)
  | .holdRemove => fit2 l (.holdRemove p)
  | .reportPress =>
    match l with
    | [a] => some (.reportPress p a none)
    | [a, b, c] => some (.reportPress p a (some (join16 b c)))
    | _ => none
  | .closeRequest => fit0 l (.closeRequest p)
  | .shuttleRequest => fit1 l (.shuttleRequest p)
  | .shuttleDone => fit1 l (.shuttleDone p)
  | .chargeBegin => fit1 l (.chargeBegin p)
  | .weighPiece => fit1 l (.weighPiece p)
  | .weighCancel => fit0 l (.weighCancel p)
  | .removePiece => fit1 l (.removePiece p)
  | .chargeDone => fit1 l (.chargeDone p)
  | .discardCharge => fit1 l (.discardCharge p)
  | .tare => fit0 l (.tare p)
  | .areaEnter => fit1 l (.areaEnter p)
  | .areaLeave => fit1 l (.areaLeave p)
  | .ejectBegin => fit1 l (.ejectBegin p)
  | .ejectEnd => fit1 l (.ejectEnd p)
  | .partTaken => fit2 l (.partTaken p)
  | .releaseApplied => fit1 l (.releaseApplied p)
  | .recipeWrite =>
    match l with
    | [] => none
    | a :: fs =>
      match readRecipe fs with
      | some (r, []) => some (.recipeWrite p a r)
      | some (_, _ :: _) => none
      | none => none
  | .recipeErase => fit1 l (.recipeErase p)
  | .bayBind =>
    match l with
    | [a, b, c, d] => some (.bayBind p a (join16 b c) d) | _ => none
  | .bayUnbind => fit1 l (.bayUnbind p)
  | .mouldChecked => fit1 l (.mouldChecked p)
  | .shotAbort => fit1 l (.shotAbort p)
  | .serialBase => fit4 l (.serialBase p)
  | .heatMode => fit1 l (.heatMode p)
  | .park => fit0 l (.park p)
  | .zoneEnable => fit1 l (.zoneEnable p)
  | .zoneDisable => fit1 l (.zoneDisable p)
  | .historyNext => fit1 l (.historyNext p)
  | .historyAck => fit4 l (.historyAck p)
  | .dispositionSet => fit5 l (.dispositionSet p)
  | .forceLeave => fit1 l (.forceLeave p)
  | .holdClear => fit0 l (.holdClear p)
  | .clockSet => fit4 l (.clockSet p)
  | .configSet =>
    match l with
    | [] => none
    | a :: ds => some (.configSet p a ds)
  | .restart => fit0 l (.restart p)

def quadBytes16 (q : Quad (BitVec 16)) : List Byte :=
  bytes16 q.c0 ++ (bytes16 q.c1 ++ (bytes16 q.c2 ++ bytes16 q.c3))

/-- R26: a RECIPE WRITE's fields as bytes. -/
def recipeBytes (r : RawRecipe) : List Byte :=
  bytes16 r.number ++ (quadBytes16 r.upper ++ (quadBytes16 r.mould ++ (bytes16 r.readyBand
    ++ (bytes16 r.overTemp ++ (bytes16 r.cureRef ++ (bytes16 r.cureTarget ++ (bytes16 r.minClosed
    ++ (bytes16 r.maxClosed ++ (bytes16 r.overstay ++ (bytes32 r.chargeTarget ++ (bytes16 r.tolLow
    ++ (bytes16 r.tolHigh ++ ([r.maxPieces] ++ (bytes16 r.minPressForce ++ (bytes16 r.demouldLimit
    ++ (bytes16 r.abortLimit ++ ([r.ejectTimeout] ++ (bytes16 r.lowerInterval
    ++ bytes16 r.upperInterval))))))))))))))))))

/-- R178: the request a command stands for, with the port that sends it and its parameter bytes;
none for a command that no frame carries. -/
def requestOf : Instr → Option (PortId × ReqKind × List Byte)
  | .frameStart _ => none
  | .frameEnd _ _ _ => none
  | .frameTimeout _ => none
  | .unknownCode _ _ _ => none
  | .resultReturn _ => none
  | .noticeAge _ => none
  | .silenceTimerExpiry _ => none
  | .nop p => some (p, .nop, [])
  | .identify p => some (p, .identify, [])
  | .readNotice p => some (p, .readNotice, [])
  | .subscribe p a cs => some (p, .subscribe, a :: cs)
  | .portStatus p none => some (p, .portStatus, [])
  | .portStatus p (some (a, cs)) => some (p, .portStatus, a :: cs)
  | .readShot p a b => some (p, .readShot, [a, b])
  | .readBay p a => some (p, .readBay, [a])
  | .readZone p a => some (p, .readZone, [a])
  | .readCell p => some (p, .readCell, [])
  | .recipeRead p a => some (p, .recipeRead, [a])
  | .historyFind p x a => some (p, .historyFind, bytes32 x ++ [a])
  | .readNode p a => some (p, .readNode, [a])
  | .holdAdd p a b => some (p, .holdAdd, [a, b])
  | .holdRemove p a b => some (p, .holdRemove, [a, b])
  | .holdClear p => some (p, .holdClear, [])
  | .reportPress p a none => some (p, .reportPress, [a])
  | .reportPress p a (some f) => some (p, .reportPress, a :: bytes16 f)
  | .closeRequest p => some (p, .closeRequest, [])
  | .shuttleRequest p a => some (p, .shuttleRequest, [a])
  | .shuttleDone p a => some (p, .shuttleDone, [a])
  | .areaEnter p a => some (p, .areaEnter, [a])
  | .areaLeave p a => some (p, .areaLeave, [a])
  | .forceLeave p a => some (p, .forceLeave, [a])
  | .chargeBegin p a => some (p, .chargeBegin, [a])
  | .weighPiece p a => some (p, .weighPiece, [a])
  | .weighCancel p => some (p, .weighCancel, [])
  | .removePiece p a => some (p, .removePiece, [a])
  | .discardCharge p a => some (p, .discardCharge, [a])
  | .chargeDone p a => some (p, .chargeDone, [a])
  | .tare p => some (p, .tare, [])
  | .ejectBegin p a => some (p, .ejectBegin, [a])
  | .ejectEnd p a => some (p, .ejectEnd, [a])
  | .partTaken p a b => some (p, .partTaken, [a, b])
  | .releaseApplied p a => some (p, .releaseApplied, [a])
  | .recipeWrite p a r => some (p, .recipeWrite, a :: recipeBytes r)
  | .recipeErase p a => some (p, .recipeErase, [a])
  | .bayBind p a m b => some (p, .bayBind, [a] ++ bytes16 m ++ [b])
  | .bayUnbind p a => some (p, .bayUnbind, [a])
  | .mouldChecked p a => some (p, .mouldChecked, [a])
  | .shotAbort p a => some (p, .shotAbort, [a])
  | .serialBase p x => some (p, .serialBase, bytes32 x)
  | .heatMode p a => some (p, .heatMode, [a])
  | .park p => some (p, .park, [])
  | .zoneEnable p a => some (p, .zoneEnable, [a])
  | .zoneDisable p a => some (p, .zoneDisable, [a])
  | .historyNext p a => some (p, .historyNext, [a])
  | .historyAck p x => some (p, .historyAck, bytes32 x)
  | .dispositionSet p x a => some (p, .dispositionSet, bytes32 x ++ [a])
  | .clockSet p x => some (p, .clockSet, bytes32 x)
  | .configSet p a ds => some (p, .configSet, a :: ds)
  | .restart p => some (p, .restart, [])
  | .heatPeriod => none
  | .idleTimerExpiry => none
  | .roundBegin => none
  | .pollReply _ => none
  | .replyTimeout => none
  | .weighTimerExpiry => none
  | .ejectionTimerExpiry => none
  | .pfwarnAsserted => none
  | .pfwarnDeasserted => none
  | .mainLoss => none
  | .retainLoss => none
  | .mainRise => none
  | .resetAsserted => none
  | .resetReleased => none
  | .configLoadEnd _ => none
  | .clk32Stopped => none
  | .clk32Resumed => none
  | .heaterSwitchOff _ => none
  | .cellTimeSecond => none

/-! ### Frames (R176) -/

/-- A whole inbound frame: code, parameter length, parameters and check. -/
def frameOf (code : Byte) (params : List Byte) : List Byte :=
  let body := code :: BitVec.ofNat 8 params.length :: params
  body ++ [crc8 body]

/-- What an ended frame is judged to be. -/
inductive FrameVerdict where
  | badLength
  | badCheck
  | valid (code : Byte) (params : List Byte)
deriving DecidableEq, Repr

/-- R176: the faults in the order of its table (the frame timeout is an event of its own). Bytes
after the check are fill and are not read. -/
def judgeFrame (bytes : List Byte) (spareBits : Fin 8) : FrameVerdict :=
  if spareBits ≠ 0 then .badLength
  else
    match bytes with
    | code :: len :: rest =>
      let n := len.toNat
      if bytes.length < 3 ∨ 60 < n ∨ bytes.length < 3 + n then .badLength
      else if 64 < bytes.length then .badLength
      else
        match rest.drop n with
        | check :: _ =>
          if check = crc8 (code :: len :: rest.take n) then .valid code (rest.take n) else .badCheck
        | [] => .badLength
    | _ => .badLength

/-! ### The opcode table's words -/

/-- The rows of spec/opcode_table.json carry no bits ("fields" is empty in every row and no row has
a "fixed" pattern): no word spells a command. -/
def decodeTableWord (_nbits _w : Nat) : Option Instr := none

end Sys2Proof
end

