-- ==== Sys2Proof/Machine/Codes.lean ====
section
/-!
DEFINITION. The numbers and fixed tables the manual gives its named values: stage codes (R6),
exception numbers and severities (R9), verdict, outcome, mode, state and result codes, notice
numbers and classes (R182), default subscriptions (R185), and the codes parameters carry (R178).
-/

namespace Sys2Proof.Machine

open Sys2Proof

/-- R6: the stage codes; NONE is 0. -/
def Stage.code : Stage → Nat
  | .charging => 1 | .charged => 2 | .closed => 3 | .cured => 4 | .opened => 5 | .ejected => 6

/-- R9: the exception numbers. -/
def Exc.number : Exc → Nat
  | .chargeDiscarded => 1 | .powerLimited => 2 | .overstay => 3 | .timeUncertain => 4
  | .cureBlind => 5 | .undercure => 6 | .overtemp => 7 | .forceLow => 8 | .sticking => 9
  | .ejectTimeout => 10 | .forceBlind => 11 | .stationSilent => 12 | .earlyOpen => 13
  | .closedUnpermitted => 14 | .ejectOverforce => 15 | .partDamaged => 16
  | .powerInterrupted => 17 | .aborted => 18

/-- R9: the severity of each exception. -/
def Exc.severity : Exc → Severity
  | .chargeDiscarded | .powerLimited | .overstay | .timeUncertain => .info
  | .cureBlind | .undercure | .overtemp | .forceLow | .sticking | .ejectTimeout | .forceBlind
  | .stationSilent => .hold
  | .earlyOpen | .closedUnpermitted | .ejectOverforce | .partDamaged | .powerInterrupted
  | .aborted => .reject

/-- R10: the verdict an exception set gives. -/
def verdictOf (es : List Exc) : Verdict :=
  if es.any fun e => e.severity == .reject then .reject
  else if es.any fun e => e.severity == .hold then .hold
  else .accept

/-- R8: a code joins the set once; the set stays in ascending order of number. -/
def insertExc (e : Exc) : List Exc → List Exc
  | [] => [e]
  | x :: xs =>
    if e.number < x.number then e :: x :: xs
    else if e = x then x :: xs
    else x :: insertExc e xs

/-- R10 -/
def Verdict.code : Verdict → Nat
  | .accept => 0 | .hold => 1 | .reject => 2

/-- R23 -/
def ShotOutcome.code : ShotOutcome → Nat
  | .completed => 0 | .aborted => 1 | .interrupted => 2

/-- R148 -/
def Disposition.code : Disposition → Nat
  | .accepted => 1 | .rejected => 2

/-- R64 -/
def HeatMode.code : HeatMode → Nat
  | .run => 0 | .setback => 1 | .setbackAuto => 2 | .off => 3

/-- R108 -/
def PressState.code : PressState → Nat
  | .unknown => 0 | .open => 1 | .closing => 2 | .closed => 3 | .opening => 4

/-- R108 -/
def Position.code : Position → Nat
  | .unknown => 0 | .aIn => 1 | .bIn => 2 | .moving => 3

/-- The position that puts a bay under the press (R5). -/
def Position.ofIn : Bay → Position
  | .a => .aIn | .b => .bIn

/-- R5: the bay under the press. -/
def Position.inBay : Position → Option Bay
  | .aIn => some .a | .bIn => some .b | .moving => none | .unknown => none

/-- R5: the bay at the OUT position. -/
def Position.outBay : Position → Option Bay
  | .aIn => some .b | .bIn => some .a | .moving => none | .unknown => none

/-- R128: PRESS_AREA 1, LOAD_AREA 2, as the area parameter names them (R178). -/
def areaCode : Area → Nat
  | .press => 1 | .load => 2

/-- R174 -/
def roleCode : Role → Nat
  | .press => 1 | .loader => 2 | .extract => 3 | .line => 4

/-- R174: a role code back to its role; another byte names none (R175, R194). -/
def roleOfCode : Byte → Option Role
  | 1#8 => some .press | 2#8 => some .loader | 3#8 => some .extract | 4#8 => some .line
  | _ => none

/-- R174 -/
def PortState.code : PortState → Nat
  | .offline => 0 | .online => 1 | .lost => 2

/-- R133 -/
def EjectState.code : EjectState → Nat
  | .idle => 0 | .active => 1 | .stopped => 2

/-- R133 -/
def StopCause.code : StopCause → Nat
  | .none => 0 | .overforce => 1 | .forceBlind => 2 | .stationSilent => 3 | .areaReleased => 4

/-- R164 -/
def NodeState.code : NodeState → Nat
  | .unused => 0 | .waiting => 1 | .ok => 2 | .missing => 3

/-- R164 -/
def MissReason.code : MissReason → Nat
  | .timeout => 1 | .check => 2 | .wrongNode => 3

/-- R192: the start codes. -/
def StartKind.code : StartKind → Nat
  | .cold => 1 | .mainLoss => 2 | .resetLine => 3 | .restart => 4

/-- R122: the reasons of the part's own holds. -/
def pressSilentReason : Nat := 1
def powerWarnReason : Nat := 2
def mouldCheckReason : Nat := 3

/-- R180: the flag codes. -/
def FlagName.code : FlagName → Nat
  | .check => 1 | .length => 2 | .unknown => 3 | .permission => 4 | .noticeLost => 5

/-- R181: a flag code back to its flag. -/
def FlagName.ofCode : Byte → Option FlagName
  | 1#8 => some .check | 2#8 => some .length | 3#8 => some .unknown | 4#8 => some .permission
  | 5#8 => some .noticeLost | _ => none

/-- R179: the byte of each result code. -/
def ResultCode.byte : ResultCode → Byte
  | .ok => 0x00#8 | .pending => 0x01#8 | .granted => 0x02#8 | .cancelled => 0x03#8
  | .empty => 0x04#8 | .busy => 0x05#8 | .full => 0x06#8 | .invalid => 0x07#8
  | .unknown => 0x08#8 | .notPermitted => 0x09#8 | .badFrame => 0x0A#8 | .locked => 0x0B#8
  | .wrongStage => 0x10#8 | .notOut => 0x11#8 | .notBound => 0x12#8 | .inUse => 0x13#8
  | .bound => 0x14#8 | .serialUnset => 0x15#8 | .serialExhausted => 0x16#8
  | .releaseDue => 0x17#8 | .parking => 0x20#8 | .heatSetback => 0x21#8 | .heatOff => 0x22#8
  | .heatMode => 0x23#8 | .notAtTemp => 0x24#8 | .historyFull => 0x30#8 | .notFound => 0x31#8
  | .mismatch => 0x32#8 | .alreadySet => 0x33#8 | .under => 0x38#8 | .over => 0x39#8
  | .notHolder => 0x40#8 | .holdsOther => 0x41#8 | .areaRequired => 0x42#8
  | .areaOccupied => 0x43#8 | .samePosition => 0x44#8 | .pressNotOpen => 0x45#8
  | .grantActive => 0x46#8 | .holdActive => 0x47#8 | .chargeOpen => 0x48#8
  | .notCharged => 0x49#8 | .positionUnknown => 0x4A#8

/-- R182: the notice numbers. -/
def NoticeCode.number : NoticeCode → Nat
  | .stationLost => 1 | .zoneFault => 2 | .unpermittedClose => 3 | .areaForced => 4
  | .ejectOverforce => 5 | .forceBlind => 6 | .ejectTimeout => 7 | .powerWarn => 8
  | .retainLost => 9
  | .cured => 16 | .closeRevoked => 17 | .shuttleRevoked => 18 | .weighDone => 19
  | .overload => 20 | .pieceTooLight => 21 | .weighUnstable => 22 | .weighFault => 23
  | .weighCancelled => 24 | .tareDone => 25 | .tareFailed => 26 | .areaGranted => 27
  | .areaCancelled => 28 | .parked => 29 | .parkCancelled => 30
  | .shotStage => 32 | .shotFiled => 33 | .releaseDue => 34 | .heatMode => 35
  | .zoneRecovered => 36 | .pressState => 37 | .shuttlePosition => 38 | .holdChanged => 39
  | .started => 48 | .nodeState => 49 | .historyNearFull => 50 | .portError => 51

/-- R182: the class that follows from the code. -/
def NoticeCode.cls : NoticeCode → NoticeClass
  | .stationLost | .zoneFault | .unpermittedClose | .areaForced | .ejectOverforce | .forceBlind
  | .ejectTimeout | .powerWarn | .retainLost => .alarm
  | .cured | .closeRevoked | .shuttleRevoked | .weighDone | .overload | .pieceTooLight
  | .weighUnstable | .weighFault | .weighCancelled | .tareDone | .tareFailed | .areaGranted
  | .areaCancelled | .parked | .parkCancelled => .completion
  | .shotStage | .shotFiled | .releaseDue | .heatMode | .zoneRecovered | .pressState
  | .shuttlePosition | .holdChanged | .started | .nodeState | .historyNearFull
  | .portError => .status

/-- R182 -/
def NoticeClass.code : NoticeClass → Nat
  | .alarm => 1 | .completion => 2 | .status => 3

/-- R185: the subscribable codes, 32 to 39. -/
def subscribable : List NoticeCode :=
  [.shotStage, .shotFiled, .releaseDue, .heatMode, .zoneRecovered, .pressState, .shuttlePosition,
   .holdChanged]

/-- R185: the default subscription set of each role, by ascending code. -/
def defaultSubs : Role → List NoticeCode
  | .press => [.shotStage, .heatMode, .holdChanged]
  | .loader => [.shotStage, .shotFiled, .releaseDue, .shuttlePosition]
  | .extract => [.shotStage, .shotFiled, .releaseDue, .pressState, .shuttlePosition]
  | .line => subscribable

/-- The zones of a bay's own mould (spec file 00, Numbering). -/
def bayGroup : Bay → ZoneGroup
  | .a => .bayA | .b => .bayB

/-- R75, R117: the eight curing zones of a bay by ascending number. -/
def curingZones (y : Bay) : List ZoneId :=
  (Ix4.all.map fun i => ⟨.upper, i⟩) ++ (Ix4.all.map fun i => ⟨bayGroup y, i⟩)

/-- R91: the force channel that serves a bay. -/
def forceChan : Bay → Chan
  | .a => .fa | .b => .fb

/-- A node's address, 1 to 16. -/
def nodeAddress (n : Ix16) : Nat := n.toNat + 1

/-- The station that may claim areas as which a role does (R126). -/
def AreaUser.ofRole : Role → Option AreaUser
  | .loader => some .loader | .extract => some .extract | .press => none | .line => none

def AreaUser.role : AreaUser → Role
  | .loader => .loader | .extract => .extract

end Sys2Proof.Machine
end

