-- ==== Sys2Proof/Machine/Defaults.lean ====
section
/-!
DEFINITION. The values the manual gives for "after any start" and "after a cold start", record by
record, and the default of every configuration item (R42, R74, R87, R164, R165, R174, R194).
-/

namespace Sys2Proof.Machine

open Sys2Proof

/-- R174, R194: the default roles. -/
def defaultRoles : PerPort Role := ⟨.press, .loader, .extract, .line⟩

/-- R74: the default rate table. -/
def defaultRateTable : Hex Nat :=
  ⟨⟨16, 23, 32, 45⟩, ⟨64, 91, 128, 181⟩, ⟨256, 362, 512, 724⟩, ⟨1024, 1448, 2048, 2896⟩⟩

/-- R164: TEMP for addresses 1 to 3, LOAD for 4 to 6, UNUSED for 7 to 16. -/
def defaultNodeKinds : Hex NodeKind :=
  ⟨⟨.temp, .temp, .temp, .load⟩, ⟨.load, .load, .unused, .unused⟩, Quad.all .unused, Quad.all .unused⟩

/-- R165: zone z on node 1 + (z div 4), channel z mod 4. -/
def defaultZoneMap : Zones (Option ZoneSource) :=
  ⟨Quad.ofFn fun i => some ⟨⟨.n0, .n0⟩, i⟩, Quad.ofFn fun i => some ⟨⟨.n0, .n1⟩, i⟩,
   Quad.ofFn fun i => some ⟨⟨.n0, .n2⟩, i⟩⟩

/-- R165: W on node 4, FA on node 5, FB on node 6. -/
def defaultLoadMap : PerChan (Option Ix16) :=
  ⟨some ⟨.n0, .n3⟩, some ⟨.n1, .n0⟩, some ⟨.n1, .n1⟩⟩

/-- R87: the default window of a channel. -/
def defaultWindow : Chan → Nat
  | .w => 8 | .fa => 1 | .fb => 1

/-- R87: the default zero, span and window of a channel. -/
def defaultCal (c : Chan) : ChannelCal := ⟨0, 65536, defaultWindow c⟩

/-- R194: every item at its default, with the three configuration flags clear. -/
def Cfg.defaults : Cfg where
  roles := defaultRoles
  silence := ⟨2000, 5000, 2000, 0⟩
  frameTimeout := 20
  reportErrors := false
  ratings := ⟨Quad.all 6000, Quad.all 3000, Quad.all 3000⟩
  budget := 48000
  upperGains := ⟨2048, 64⟩
  mouldGains := ⟨1536, 48⟩
  rampLimit := 50
  setbackUpper := 1000
  setbackMould := 1000
  cutback := 4200
  idleLimit := 30
  enabledAtStart := Zones.all true
  recovery := .setback
  rateTable := defaultRateTable
  nodeKinds := defaultNodeKinds
  zoneMap := defaultZoneMap
  loadMap := defaultLoadMap
  replyTimeout := 4
  channels := ⟨defaultCal .w, defaultCal .fa, defaultCal .fb⟩
  bands := ⟨40, 40, 40⟩
  weighTimeout := 8
  capacity := 50000
  minPiece := 20
  isDefault := false
  tableDefault := false
  locked := false

/-- R41: a zone record after any start, before the state is derived (R43): OFF with nothing known. -/
def Zone.start (enabled : Bool) : Zone where
  enabled := enabled
  state := .off
  target := none
  effective := none
  rampAcc := 0
  latest := none
  validNow := false
  invalidCount := 0
  validCount := 0
  integrator := 0
  requested := 0
  granted := 0
  limited := false
  atTemp := false

/-- R41, R64, R66, R71: the heat block after any start; the mode is set by R195 afterwards. -/
def Heat.start (enabled : Zones Bool) : Heat where
  zones := ⟨Quad.ofFn fun i => Zone.start (enabled.get ⟨.upper, i⟩),
            Quad.ofFn fun i => Zone.start (enabled.get ⟨.bayA, i⟩),
            Quad.ofFn fun i => Zone.start (enabled.get ⟨.bayB, i⟩)⟩
  lines := Zones.all false
  mode := .off
  parkPending := false
  idleTimer := 0
  sum1 := 0
  sum2 := 0
  totalGranted := 0

/-- R86: a channel after any start. -/
def Channel.start : Channel := ⟨[], 0⟩

/-- R93: the weigh/tare slot after any start. -/
def Weigh.start : Weigh := ⟨.none, none, 0⟩

/-- R108: the permit block after any start, before the SELF entries are derived. -/
def Permit.start : Permit where
  press := .unknown
  position := .unknown
  closeGrant := none
  shuttleGrant := none
  stationHolds := []
  selfHolds := ⟨false, false, ⟨false, false⟩⟩
  areas := ⟨⟨none, none⟩, ⟨none, none⟩⟩

/-- R133: the ejection record after any start, and whenever it returns to IDLE (R142). -/
def Eject.start : Eject := ⟨.idle, none, none, 0, .none, none⟩

/-- R164: a node's entry after any start. -/
def Node.start (k : NodeKind) : Node where
  state := if k = .unused then .unused else .waiting
  misses := 0
  lastMiss := none
  channels := Quad.all ⟨none, false⟩

/-- R166: the node the first poll of a round goes to, the lowest configured address; none if no
node is configured. -/
def firstNode (kinds : Hex NodeKind) : Option Ix16 :=
  Ix16.all.find? fun n => kinds.get n != .unused

/-- R164, R166: the sensor link after any start: the table built from the configuration and the
first round begun. -/
def Sensor.start (kinds : Hex NodeKind) : Sensor :=
  ⟨Hex.ofFn fun n => Node.start (kinds.get n), firstNode kinds⟩

def ErrorFlags.clear : ErrorFlags :=
  ⟨⟨false, false⟩, ⟨false, false⟩, ⟨false, false⟩, ⟨false, false⟩, ⟨false, false⟩⟩

/-- R174: a port record after any start. -/
def Port.start (r : Role) : Port where
  state := .offline
  timer := none
  buffer := .idle
  queue := []
  subs := defaultSubs r
  trigger := 1
  flags := ErrorFlags.clear
  frame := none

/-- R25: a recipe slot after a cold start. -/
def RecipeSlot.cold : RecipeSlot := ⟨none, 0, 0⟩

/-- R32: a bay record after a cold start. -/
def BayRecord.cold : BayRecord := ⟨0, none, 0, 0, false⟩

/-- R147: the history block after a cold start. -/
def History.cold : History := ⟨[], 0, 0, true⟩

end Sys2Proof.Machine
end

