-- ==== Sys2Proof/Machine/State.lean ====
section
/-!
DEFINITION. The state of the CP212: every piece of state the spec gives its eleven blocks, as plain
data, and the queue of commands that wait (first in, first out). What is an output line whose level
the manual fixes from other state (CLOSE_OK, SHUTTLE_OK, EJECT_OK, ATTN) is computed from it in
Machine/Outputs.lean; the heater lines are held, because their level depends on an earlier reload.
-/

namespace Sys2Proof.Machine

open Sys2Proof

/-- The state of the machine, block by block (spec file 00, Block overview). -/
structure State where
  /-- The commands that wait, first in, first out. -/
  pending : List Instr
  /-- R192, R193: stopped, within a start, or running. -/
  phase : Phase
  /-- The input levels: MAIN, RESET, PFWARN, CLK32. -/
  pins : Pins
  /-- R190: the retain-loss detector has tripped. -/
  retainTripped : Bool
  /-- R191: NORMAL or WARNING. -/
  supply : Supply
  /-- R197: cell time and its flags (retained). -/
  clock : Clock
  /-- R190: the retained last heat mode. -/
  lastHeat : LastHeat
  /-- R194: the configuration items in use and the configuration flags. -/
  cfg : Cfg
  /-- R174: the four port records. -/
  ports : PerPort Port
  /-- R1: the two shot slots (retained). -/
  slots : PerBay (Option Shot)
  /-- R11: the serial counter (retained); absent is UNSET. -/
  serial : Option Nat
  /-- R25: the recipe table (retained). -/
  recipes : Hex RecipeSlot
  /-- R32: the two bay records (retained). -/
  bays : PerBay BayRecord
  /-- R36: the upper release count (retained). -/
  upperCount : Nat
  /-- R41, R64, R66, R71: the heat block. -/
  heat : Heat
  /-- R73: the cure mark of each bay. -/
  cureMarks : PerBay (Option Nat)
  /-- R86: the queues and arrival counts of the load channels. -/
  channels : PerChan Channel
  /-- R93: the weigh/tare slot, its timer and the tare. -/
  weigh : Weigh
  /-- R108: the permit block. -/
  permit : Permit
  /-- R133: the ejection record. -/
  eject : Eject
  /-- R147: the history store (retained, but for the near-full flag). -/
  history : History
  /-- R164, R166: the node table and the poll in progress. -/
  sensor : Sensor
deriving DecidableEq, Repr

/-- Why the machine stops. No command of the CP212 stops it: every rule of the spec that turns a
command away gives the reply or leaves the state as it was, so this type has no constructor. -/
inductive Fault where
deriving DecidableEq, Repr

/-- Why a command has no meaning. -/
inductive Refusal where
  /-- Raised by an arm of `exec` whose command is not modelled yet. Safe: nothing can be proved of
  the command. No arm raises it. -/
  | notModelled (mnemonic : String)
deriving DecidableEq, Repr

/-- R193: the notices every port holds when a cold start has ended with the supply NORMAL: ALARM
RETAIN_LOST, then STATUS STARTED with the start code 1 and the heat mode OFF (code 3). -/
def coldNotices : List Queued :=
  [⟨⟨.retainLost, none, none, 0, 0⟩, false⟩, ⟨⟨.started, none, none, 1, 3⟩, false⟩]

/-- The machine right after reset: the end of a COLD START (R193) with a configuration image that
has no entries (every item at its default), PFWARN deasserted and CLK32 running. Every field is at
the value its owning chapter states; the choice of this start, image and input levels is the
model's (notes/assumptions/1). Sys2Proof/Tests/Slice0.lean shows that CONFIG_LOAD_END of such a
start answers exactly this state. -/
def State.reset : State where
  pending := []
  phase := .running
  pins := ⟨true, false, false, true⟩
  retainTripped := false
  supply := .normal
  clock := ⟨0#32, false, true⟩
  lastHeat := ⟨.off, false⟩
  cfg := Cfg.defaults
  ports := Quad.ofFn fun p => { Port.start (defaultRoles.get p) with queue := coldNotices }
  slots := ⟨none, none⟩
  serial := none
  recipes := Hex.all RecipeSlot.cold
  bays := ⟨BayRecord.cold, BayRecord.cold⟩
  upperCount := 0
  heat := Heat.start (Zones.all true)
  cureMarks := ⟨none, none⟩
  channels := ⟨Channel.start, Channel.start, Channel.start⟩
  weigh := Weigh.start
  permit := Permit.start
  eject := Eject.start
  history := History.cold
  sensor := Sensor.start defaultNodeKinds

end Sys2Proof.Machine
end

