-- ==== Sys2Proof/Machine/Notices.lean ====
section
/-!
DEFINITION. How a notice reaches the port queues (R182, R183), and who receives it.
-/

namespace Sys2Proof.Machine

open Sys2Proof

/-- R175: the port that carries a role (each role is on exactly one port). -/
def State.portOf (s : State) (r : Role) : PortId :=
  if s.cfg.roles.get .n0 = r then .n0
  else if s.cfg.roles.get .n1 = r then .n1
  else if s.cfg.roles.get .n2 = r then .n2
  else .n3

/-- The role of a port. -/
def State.roleOf (s : State) (p : PortId) : Role := s.cfg.roles.get p

def State.setPort (s : State) (p : PortId) (q : Port) : State :=
  { s with ports := s.ports.set p q }

/-- The first notice of a class removed from a queue: the oldest one of that class. -/
def dropOldest (c : NoticeClass) : List Queued → List Queued
  | [] => []
  | x :: xs => if x.notice.code.cls = c then xs else x :: dropOldest c xs

/-- R183: a notice arrives at a port's queue: placed at the end of fewer than 8; at 8 it displaces
the oldest STATUS notice, or is dropped when none is held, and NOTICE_LOST is set either way. A flag
already set keeps its reported indication, and NOTICE_LOST is never reported (R180). -/
def Port.receive (q : Port) (n : Notice) : Port :=
  if q.queue.length < 8 then { q with queue := q.queue ++ [⟨n, false⟩] }
  else
    let lost := { q.flags with noticeLost := { q.flags.noticeLost with set := true } }
    if q.queue.any fun x => x.notice.code.cls == .status then
      { q with queue := dropOldest .status q.queue ++ [⟨n, false⟩], flags := lost }
    else { q with flags := lost }

/-- R182: a notice queued on one port. -/
def State.post (s : State) (p : PortId) (n : Notice) : State :=
  s.setPort p ((s.ports.get p).receive n)

/-- R182: a notice queued on the port of a role. -/
def State.postRole (s : State) (r : Role) (n : Notice) : State := s.post (s.portOf r) n

/-- R182: a notice queued on every port separately. -/
def State.postAll (s : State) (n : Notice) : State :=
  { s with ports := Quad.ofFn fun p => (s.ports.get p).receive n }

/-- R182, R185: a notice queued on every port whose subscription set holds its code. -/
def State.postSubs (s : State) (n : Notice) : State :=
  { s with ports := Quad.ofFn fun p =>
      let q := s.ports.get p
      if n.code ∈ q.subs then q.receive n else q }

end Sys2Proof.Machine
end

