-- ==== Sys2Proof/Machine/ShotOps.lean ====
section
/-!
DEFINITION. The operations of the shot block on an open shot's context (spec file 01): finding it,
adding an exception (R8), taking a timestamp (R3) and advancing the stage (R6).
-/

namespace Sys2Proof.Machine

open Sys2Proof

/-- R3: a timestamp taken now: the present cell time and the TIME_UNCERTAIN flag. -/
def State.stamp (s : State) : Timestamp := ⟨s.clock.time, s.clock.uncertain⟩

def State.setSlot (s : State) (y : Bay) (o : Option Shot) : State :=
  { s with slots := s.slots.set y o }

/-- R7: a change of a bay's open shot; an empty slot is no shot. -/
def State.mapShot (s : State) (y : Bay) (f : Shot → Shot) : State :=
  s.setSlot y ((s.slots.get y).map f)

def State.shotStage (s : State) (y : Bay) : Option Stage := (s.slots.get y).map (·.stage)

/-- R8: an exception added to a bay's open shot. -/
def State.addExc (s : State) (y : Bay) (e : Exc) : State :=
  s.mapShot y fun sh => { sh with exceptions := insertExc e sh.exceptions }

/-- R15, R159: the number of open shots. -/
def State.openShots (s : State) : Nat :=
  (if (s.slots.get .a).isSome then 1 else 0) + (if (s.slots.get .b).isSome then 1 else 0)

def serialOf (s : State) (y : Bay) : Option Nat := (s.slots.get y).map (·.serial)

/-- R6: the stage and the timestamp that belongs to it. -/
def Shot.enter (sh : Shot) (st : Stage) (t : Timestamp) : Shot :=
  match st with
  | .charging => { sh with stage := st, openedAt := t }
  | .charged => { sh with stage := st, chargedAt := some t }
  | .closed => { sh with stage := st, closedAt := some t }
  | .cured => { sh with stage := st, curedAt := some t }
  | .opened => { sh with stage := st, pressOpenedAt := some t }
  | .ejected => { sh with stage := st, ejectedAt := some t }

/-- R3: TIME_UNCERTAIN joins the set when the timestamp taken is uncertain. -/
def Shot.marked (sh : Shot) (t : Timestamp) : Shot :=
  if t.uncertain then { sh with exceptions := insertExc .timeUncertain sh.exceptions } else sh

/-- R6: a stage advance: the stage, its timestamp, and STATUS SHOT_STAGE with the new stage code and
the previous one. On an empty slot it advances nothing (R7). -/
def State.advance (s : State) (y : Bay) (st : Stage) : State :=
  match s.slots.get y with
  | none => s
  | some sh =>
    (s.setSlot y (some ((sh.enter st s.stamp).marked s.stamp))).postSubs
      { code := .shotStage, bay := some y, serial := some sh.serial,
        v1 := st.code, v2 := sh.stage.code }

/-- R4: the recipe a slot holds. -/
def State.recipeAt (s : State) (i : Ix16) : Option Recipe := (s.recipes.get i).recipe

/-- R4: the recipe of an open shot, from the slot its context names. -/
def State.shotRecipe (s : State) (sh : Shot) : Option Recipe := s.recipeAt sh.recipeSlot

/-- R32: a bay is bound when its mould ID is not 0. -/
def State.bound (s : State) (y : Bay) : Bool := (s.bays.get y).mouldId != 0

/-- R32: the recipe a bound bay works to. -/
def State.bayRecipe (s : State) (y : Bay) : Option Recipe :=
  if s.bound y then (s.bays.get y).recipeSlot.bind s.recipeAt else none

def State.setBay (s : State) (y : Bay) (r : BayRecord) : State :=
  { s with bays := s.bays.set y r }

/-- R35: the lower release of a bay is due. -/
def State.lowerDue (s : State) (y : Bay) : Bool :=
  match s.bayRecipe y with
  | some r => r.lowerInterval != 0 && decide (r.lowerInterval ≤ (s.bays.get y).lowerCount)
  | none => false

/-- R36: the recipe of the bound bay under the press, whose upper interval is judged. -/
def State.pressRecipe (s : State) : Option Recipe := s.permit.position.inBay.bind s.bayRecipe

/-- R36: the upper release is due at the present position. -/
def State.upperDue (s : State) : Bool :=
  match s.pressRecipe with
  | some r => r.upperInterval != 0 && decide (r.upperInterval ≤ s.upperCount)
  | none => false

end Sys2Proof.Machine
end

