-- ==== Sys2Proof/Machine/HeatOps.lean ====
section
/-!
DEFINITION. The heat block between two periods: setpoint sources (R44), targets (R45), the zone
state changes of R43, the at-temperature judgement (R63) and its hand-over to the permit block,
the withdrawal of a close grant (R119), and the change of the heat mode (R64).
-/

namespace Sys2Proof.Machine

open Sys2Proof

/-! ### The close grant's end (R119), which a lost temperature or mode brings about -/

/-- R119: an outstanding close grant withdrawn with its cause code; `zone` is value 2, named for
cause 2 only. Waiter promotion follows at the end of the event (`settle`, R127). -/
def State.withdrawClose (s : State) (cause : Nat) (zone : Nat := 0) : State :=
  match s.permit.closeGrant with
  | none => s
  | some y =>
    { s with permit.closeGrant := none }.postRole .press
      { code := .closeRevoked, bay := some y, serial := serialOf s y, v1 := cause, v2 := zone }

/-! ### Sources and targets -/

/-- R44: the bay whose recipe gives the upper setpoints. -/
def State.upperSource (s : State) : Option Bay :=
  let fallback : Option Bay :=
    if (s.bayRecipe .a).isSome then some .a
    else if (s.bayRecipe .b).isSome then some .b
    else none
  match s.permit.position.inBay with
  | some y => if (s.bayRecipe y).isSome then some y else fallback
  | none => fallback

/-- R44: the bay whose recipe is a zone's setpoint source. -/
def State.zoneSource (s : State) (z : ZoneId) : Option Bay :=
  match z.grp with
  | .upper => s.upperSource
  | .bayA => if (s.bayRecipe .a).isSome then some .a else none
  | .bayB => if (s.bayRecipe .b).isSome then some .b else none

/-- R44: the recipe of a zone's source. -/
def State.zoneRecipe (s : State) (z : ZoneId) : Option Recipe := (s.zoneSource z).bind s.bayRecipe

/-- R44: the setpoint a recipe gives a zone: U1 to U4 or M1 to M4 in order. -/
def Recipe.setpoint (r : Recipe) (z : ZoneId) : Int :=
  match z.grp with
  | .upper => r.upper.get z.ix
  | .bayA => r.mould.get z.ix
  | .bayB => r.mould.get z.ix

/-- R42: the setback temperature of a zone's class. -/
def Cfg.setback (c : Cfg) (z : ZoneId) : Int :=
  match z.grp with
  | .upper => c.setbackUpper
  | .bayA => c.setbackMould
  | .bayB => c.setbackMould

/-- R45: the target of a zone. -/
def State.zoneTarget (s : State) (z : ZoneId) : Option Int :=
  match s.heat.mode with
  | .off => none
  | .run => (s.zoneRecipe z).map fun r => r.setpoint z
  | .setback => (s.zoneRecipe z).map fun r => min (r.setpoint z) (s.cfg.setback z)
  | .setbackAuto => (s.zoneRecipe z).map fun r => min (r.setpoint z) (s.cfg.setback z)

/-! ### Zone state changes outside the heat period (R43) -/

/-- R43, entry to OFF. The granted duty stays until the next reload, and the target is R45's. -/
def Zone.enterOff (z : Zone) : Zone :=
  { z with state := .off, effective := none, rampAcc := 0, integrator := 0, requested := 0,
           invalidCount := 0, validCount := 0, limited := false, atTemp := false }

/-- R43, leaving OFF or IDLE for regulation. -/
def Zone.enterRamp (z : Zone) : Zone :=
  { z with state := .ramp, effective := none, rampAcc := 0, integrator := 0 }

/-- R43, loss of source in RAMP or REGULATE. The consecutive counts are kept. -/
def Zone.loseSource (z : Zone) : Zone :=
  { z with state := .idle, effective := none, rampAcc := 0, integrator := 0, requested := 0 }

/-- R43, R45: the state a zone moves to once its target is derived again. `off` says that it is
disabled or that the mode is OFF; `moved` that its target differs from the old one. A target is
absent, outside mode OFF, where the zone has no setpoint source. -/
def Zone.follow (z : Zone) (off moved : Bool) : Zone :=
  if off then
    match z.state with
    | .off => z
    | .idle => z.enterOff
    | .ramp => z.enterOff
    | .regulate => z.enterOff
    | .fault => z.enterOff
  else
    match z.state, z.target with
    | .off, some _ => z.enterRamp
    | .off, none => { z with state := .idle }
    | .idle, some _ => z.enterRamp
    | .idle, none => z
    | .ramp, some _ => z
    | .ramp, none => z.loseSource
    | .regulate, some _ => if moved then { z with state := .ramp } else z
    | .regulate, none => z.loseSource
    | .fault, _ => z

/-- R43, R45: a zone at an event that derives its target again: the target, whether the zone is
enabled or not, and then the state. -/
def Zone.rederive (z : Zone) (off : Bool) (t : Option Int) : Zone :=
  { z with target := t }.follow off (t != z.target)

/-- R63: whether a zone is at temperature, with the ready band of its source recipe. -/
def Zone.isAtTemp (z : Zone) (source : Option Recipe) : Bool :=
  match z.state, z.latest, z.target, source with
  | .regulate, some v, some t, some r => decide (((v - t).natAbs : Int) ≤ r.readyBand)
  | _, _, _, _ => false

/-- R63, R64: the flag judged again when the state or the target changed outside the period, and at
every change of the heat mode (`always`). -/
def Zone.rejudged (z old : Zone) (source : Option Recipe) (always : Bool) : Zone :=
  if z.state = old.state ∧ z.target = old.target ∧ always = false then z
  else { z with atTemp := z.isAtTemp source }

/-- The curing zones of a bay whose at-temperature flag an event cleared. -/
def clearedZones (old new : Zones Zone) (y : Bay) : List ZoneId :=
  (curingZones y).filter fun z => (old.get z).atTemp && !(new.get z).atTemp

/-- R63, R119: the flags handed to the permit block: a curing zone's flag cleared under a close
grant withdraws it with cause 2 and the lowest-numbered such zone. -/
def State.handFlags (s : State) (old : Zones Zone) : State :=
  match s.permit.closeGrant with
  | none => s
  | some y =>
    match clearedZones old s.heat.zones y with
    | [] => s
    | z :: _ => s.withdrawClose 2 z.number

/-- R43, R45, R63: every zone's target and state derived again, and the at-temperature flags judged
again: those of the zones that changed, or (`always`) all of them. -/
def State.deriveZones (s : State) (always : Bool) : State :=
  let old := s.heat.zones
  let new := Zones.ofFn fun z =>
    let x := old.get z
    (x.rederive (!x.enabled || s.heat.mode == .off) (s.zoneTarget z)).rejudged x (s.zoneRecipe z)
      always
  { s with heat.zones := new }.handFlags old

/-- R43, R45, R63, R70: the event that changed a binding, a bound recipe, the position, a setback
temperature or an enabled flag. -/
def State.rederiveZones (s : State) : State := s.deriveZones false

/-! ### The heat mode (R64) -/

/-- R64: a change of the heat mode: the targets derived and every flag judged again, STATUS HEAT_MODE
queued, the retained last heat mode written, and a close grant withdrawn with cause 3 when the mode
leaves RUN. That HEAT_MODE comes before CLOSE_REVOKED is the model's choice (notes/assumptions/18). No
effect when the mode does not change. -/
def State.setMode (s : State) (m : HeatMode) : State :=
  if s.heat.mode = m then s
  else
    let s1 := { s with heat.mode := m, lastHeat.mode := m }.postSubs
      { code := .heatMode, v1 := m.code, v2 := s.heat.mode.code }
    let s2 := if s.heat.mode = .run then s1.withdrawClose 3 else s1
    s2.deriveZones true

/-- R64: a change of the park-pending flag, written into the retained last heat mode. -/
def State.setPark (s : State) (v : Bool) : State :=
  { s with heat.parkPending := v, lastHeat.park := v }

/-- R67: the wake rule: SETBACK_AUTO becomes RUN. -/
def State.wake (s : State) : State :=
  if s.heat.mode = .setbackAuto then s.setMode .run else s

/-! ### The idle timer (R66) -/

/-- R66: the conditions under which the idle timer runs. -/
def State.idleRuns (s : State) : Bool :=
  s.heat.mode == .run && s.cfg.idleLimit != 0
    && (s.slots.get .a).isNone && (s.slots.get .b).isNone
    && (s.permit.areas.get .press).holder.isNone && (s.permit.areas.get .press).waiter.isNone
    && (s.permit.areas.get .load).holder.isNone && (s.permit.areas.get .load).waiter.isNone
    && s.permit.closeGrant.isNone && s.permit.shuttleGrant.isNone

/-- R66: at the event at which a condition ceases to hold, the timer returns to 0. -/
def State.idleSettled (s : State) : State :=
  if s.idleRuns then s else { s with heat.idleTimer := 0 }

end Sys2Proof.Machine
end

