-- ==== Sys2Proof/Machine/Operands.lean ====
section
/-!
DEFINITION. What the parameter bytes of a request name (R178), the clamps of R26 and R194, and the
roundings of spec file 00 ("Arithmetic"). A byte outside a set names nothing; the owning rule
refuses it.
-/

namespace Sys2Proof.Machine

open Sys2Proof

/-- bay: A 01h, B 02h -/
def bayOf : Byte → Option Bay
  | 1#8 => some .a | 2#8 => some .b | _ => none

/-- area: PRESS_AREA 01h, LOAD_AREA 02h -/
def areaOf : Byte → Option Area
  | 1#8 => some .press | 2#8 => some .load | _ => none

/-- scope: CELL 01h, BAY_A 02h, BAY_B 03h -/
def scopeOf : Byte → Option Scope
  | 1#8 => some .cell | 2#8 => some (.bay .a) | 3#8 => some (.bay .b) | _ => none

/-- R109: the press state a report may name; UNKNOWN is none of them. -/
def pressOf : Byte → Option PressState
  | 1#8 => some .open | 2#8 => some .closing | 3#8 => some .closed | 4#8 => some .opening
  | _ => none

/-- R65: the heat modes HEAT MODE supports. -/
def heatModeOf : Byte → Option HeatMode
  | 0#8 => some .run | 1#8 => some .setback | 3#8 => some .off | _ => none

/-- The targets of RELEASE APPLIED (R37). -/
inductive ReleaseTarget where
  | lower (which : Bay)
  | upper
deriving DecidableEq, Repr

/-- release target: LOWER-A 01h, LOWER-B 02h, UPPER 03h -/
def releaseTargetOf : Byte → Option ReleaseTarget
  | 1#8 => some (.lower .a) | 2#8 => some (.lower .b) | 3#8 => some .upper | _ => none

/-- condition: GOOD 01h, DAMAGED 02h; the answer says whether the part is DAMAGED. -/
def damagedOf : Byte → Option Bool
  | 1#8 => some false | 2#8 => some true | _ => none

/-- disposition: ACCEPTED 01h, REJECTED 02h -/
def dispositionOf : Byte → Option Disposition
  | 1#8 => some .accepted | 2#8 => some .rejected | _ => none

/-- A recipe slot number, 0 to 15. -/
def slotOf (b : Byte) : Option Ix16 := Ix16.ofNat? b.toNat

/-- A node address, 1 to 16. -/
def nodeOf (b : Byte) : Option Ix16 := if b = 0#8 then none else Ix16.ofNat? (b.toNat - 1)

/-- R185: a subscribable code, 32 to 39. -/
def subscribableOf (b : Byte) : Option NoticeCode := subscribable.find? fun c => c.number == b.toNat

/-- R70: the zones a zone value names: one for 0 to 11, all twelve above. -/
def zonesOf (b : Byte) : List ZoneId :=
  match ZoneId.ofNat? b.toNat with
  | some z => [z]
  | none => ZoneId.all

/-- Spec file 00: clamped to a range. -/
def clampNat (lo hi n : Nat) : Nat := if n < lo then lo else if hi < n then hi else n

def clampInt (lo hi n : Int) : Int := if n < lo then lo else if hi < n then hi else n

/-- Spec file 00: a count that saturates. -/
def satAdd (top n k : Nat) : Nat := min top (n + k)

/-- Spec file 00: a quotient rounded to nearest, a half away from zero (the divisor is positive). -/
def roundDiv (n : Int) (d : Nat) : Int :=
  if n < 0 then -(((2 * n.natAbs + d) / (2 * d) : Nat) : Int)
  else (((2 * n.natAbs + d) / (2 * d) : Nat) : Int)

/-- R26, R28: each field of a RECIPE WRITE at the value that would be stored. -/
def storedRecipe (r : RawRecipe) : Recipe where
  number := r.number.toNat
  upper := Quad.ofFn fun i => clampInt 0 4000 (r.upper.get i).toInt
  mould := Quad.ofFn fun i => clampInt 0 4000 (r.mould.get i).toInt
  readyBand := clampInt 10 200 r.readyBand.toNat
  overTemp := clampInt 0 4500 r.overTemp.toInt
  cureRef := clampInt 0 4000 r.cureRef.toInt
  cureTarget := clampNat 1 3600 r.cureTarget.toNat
  minClosed := clampNat 0 7200 r.minClosed.toNat
  maxClosed := clampNat 1 7200 r.maxClosed.toNat
  overstay := clampNat 1 7200 r.overstay.toNat
  chargeTarget := clampNat 0 799992 r.chargeTarget.toNat
  tolLow := r.tolLow.toNat
  tolHigh := r.tolHigh.toNat
  maxPieces := clampNat 1 8 r.maxPieces.toNat
  minPressForce := r.minPressForce.toNat
  demouldLimit := r.demouldLimit.toNat
  abortLimit := r.abortLimit.toNat
  ejectTimeout := clampNat 1 120 r.ejectTimeout.toNat
  lowerInterval := r.lowerInterval.toNat
  upperInterval := r.upperInterval.toNat

/-- The values a RECIPE WRITE carries, before any clamp (R28's clamped indication compares). -/
def receivedRecipe (r : RawRecipe) : Recipe where
  number := r.number.toNat
  upper := Quad.ofFn fun i => (r.upper.get i).toInt
  mould := Quad.ofFn fun i => (r.mould.get i).toInt
  readyBand := r.readyBand.toNat
  overTemp := r.overTemp.toInt
  cureRef := r.cureRef.toInt
  cureTarget := r.cureTarget.toNat
  minClosed := r.minClosed.toNat
  maxClosed := r.maxClosed.toNat
  overstay := r.overstay.toNat
  chargeTarget := r.chargeTarget.toNat
  tolLow := r.tolLow.toNat
  tolHigh := r.tolHigh.toNat
  maxPieces := r.maxPieces.toNat
  minPressForce := r.minPressForce.toNat
  demouldLimit := r.demouldLimit.toNat
  abortLimit := r.abortLimit.toNat
  ejectTimeout := r.ejectTimeout.toNat
  lowerInterval := r.lowerInterval.toNat
  upperInterval := r.upperInterval.toNat

/-! ### Reply items -/

def Field.nat (n : Nat) : Field := .num n

def Field.optInt : Option Int → Field
  | some v => .num v | none => .absent

def Field.optNat : Option Nat → Field
  | some v => .num v | none => .absent

def Field.optBay : Option Bay → Field
  | some y => .bay y | none => .absent

def Reply.of (c : ResultCode) (d : List Field := []) : Reply := ⟨c, d⟩

/-- R24, R156: a timestamp reported with its uncertain flag. -/
def Timestamp.fields (t : Timestamp) : List Field := [.nat t.time.toNat, .flag t.uncertain]

/-- An optional timestamp: present with both items, or absent in both. -/
def stampFields : Option Timestamp → List Field
  | some t => t.fields | none => [.absent, .absent]

/-- R24, R156: a piece: number, net grams, capture time and uncertain flag. -/
def Piece.fields (x : Piece) : List Field := [.nat x.number, .num x.net] ++ x.captured.fields

/-- R28, R30: every field of R26 as stored, in its order. -/
def Recipe.fields (r : Recipe) : List Field :=
  ([.nat r.number] : List Field) ++ r.upper.toList.map .num ++ r.mould.toList.map .num
    ++ ([.num r.readyBand, .num r.overTemp, .num r.cureRef, .nat r.cureTarget, .nat r.minClosed,
        .nat r.maxClosed, .nat r.overstay, .nat r.chargeTarget, .nat r.tolLow, .nat r.tolHigh,
        .nat r.maxPieces, .nat r.minPressForce, .nat r.demouldLimit, .nat r.abortLimit,
        .nat r.ejectTimeout, .nat r.lowerInterval, .nat r.upperInterval] : List Field)

/-- R32: the fields of a bay record. -/
def BayRecord.fields (r : BayRecord) : List Field :=
  [.nat r.mouldId, (match r.recipeSlot with | some i => .nat i.toNat | none => .absent),
   .nat r.shotsOnBinding, .nat r.lowerCount, .flag r.mouldCheck]

end Sys2Proof.Machine
end

