-- ==== Sys2Proof/Machine/PermitOps.lean ====
section
/-!
DEFINITION. The permit block's shared operations (spec file 06): press state and position with
their notices (R108), the withdrawal of the shuttle grant (R115), the hold set (R122), the work
areas (R125, R127), and the mould-check flag with its hold (R38).
-/

namespace Sys2Proof.Machine

open Sys2Proof

/-! ### Press state and position (R108) -/

def State.setPress (s : State) (x : PressState) : State :=
  if s.permit.press = x then s
  else { s with permit.press := x }.postSubs
    { code := .pressState, v1 := x.code, v2 := s.permit.press.code }

/-- R108: a change of position with its notice; the heat block derives its targets again (R45). -/
def State.setPosition (s : State) (x : Position) : State :=
  if s.permit.position = x then s
  else
    ({ s with permit.position := x }.postSubs
      { code := .shuttlePosition, v1 := x.code, v2 := s.permit.position.code }).rederiveZones

/-- R115: an outstanding shuttle grant withdrawn: the position becomes UNKNOWN with its notice, and
COMPLETION SHUTTLE_REVOKED carries the cause and the target (A_IN 1, B_IN 2). -/
def State.withdrawShuttle (s : State) (cause : Nat) : State :=
  match s.permit.shuttleGrant with
  | none => s
  | some y =>
    ({ s with permit.shuttleGrant := none }.setPosition .unknown).postRole .press
      { code := .shuttleRevoked, v1 := cause, v2 := (Position.ofIn y).code }

/-! ### The hold set (R122) -/

/-- R117: the SELF entries by reason code, BAY_A before BAY_B. READ CELL lists them in that order too:
R131 only puts them after the station entries, so their order there is the model's choice
(notes/assumptions/19). -/
def SelfHolds.entries (h : SelfHolds) : List Hold :=
  (if h.pressSilent then [⟨.self, .cell, pressSilentReason⟩] else [])
    ++ (if h.powerWarn then [⟨.self, .cell, powerWarnReason⟩] else [])
    ++ (if h.mouldCheck.get .a then [⟨.self, .bay .a, mouldCheckReason⟩] else [])
    ++ (if h.mouldCheck.get .b then [⟨.self, .bay .b, mouldCheckReason⟩] else [])

/-- R131: the whole hold set: station entries in the order of their addition, then SELF entries. -/
def State.holds (s : State) : List Hold := s.permit.stationHolds ++ s.permit.selfHolds.entries

/-- R122: the bay a change of entries carries: the one bay all of them have the scope of. -/
def holdsBay (hs : List Hold) : Option Bay :=
  if hs.isEmpty then none
  else if hs.all fun h => h.scope == .bay .a then some .a
  else if hs.all fun h => h.scope == .bay .b then some .b
  else none

/-- R122: STATUS HOLD_CHANGED for the entries an event added or removed; value 2 is the number of
entries after the change. -/
def State.holdChanged (s : State) (added : Bool) (hs : List Hold) : State :=
  s.postSubs { code := .holdChanged, bay := holdsBay hs, v1 := if added then 1 else 2,
               v2 := s.holds.length }

/-- R122, R123: the grants an added entry of a scope withdraws: CELL both, BAY the close grant of
that bay, each with cause 1. -/
def State.blockGrants (s : State) (sc : Scope) : State :=
  match sc with
  | .cell => (s.withdrawShuttle 1).withdrawClose 1
  | .bay y => if s.permit.closeGrant = some y then s.withdrawClose 1 else s

/-- R122: a SELF entry of scope CELL set present or absent, with its HOLD_CHANGED; the withdrawals
its addition brings are the caller's, since PRESS LOST gives them other causes (R130). -/
def State.setPressSilent (s : State) (v : Bool) : State :=
  if s.permit.selfHolds.pressSilent = v then s
  else { s with permit.selfHolds.pressSilent := v }.holdChanged v [⟨.self, .cell, pressSilentReason⟩]

def State.setPowerWarn (s : State) (v : Bool) : State :=
  if s.permit.selfHolds.powerWarn = v then s
  else { s with permit.selfHolds.powerWarn := v }.holdChanged v [⟨.self, .cell, powerWarnReason⟩]

/-- R38: a bay's mould-check flag set or cleared: only a change moves the MOULD_CHECK entry and
queues HOLD_CHANGED, and setting it withdraws a close grant for the bay (R122). -/
def State.setMouldCheck (s : State) (y : Bay) (v : Bool) : State :=
  if (s.bays.get y).mouldCheck = v then s
  else
    let s1 := s.setBay y { s.bays.get y with mouldCheck := v }
    let s2 := { s1 with permit.selfHolds.mouldCheck := s1.permit.selfHolds.mouldCheck.set y v }
    let s3 := s2.holdChanged v [⟨.self, .bay y, mouldCheckReason⟩]
    if v then s3.blockGrants (.bay y) else s3

/-- R117: the first entry that blocks a close of a bay. -/
def State.blockingHold (s : State) (y : Bay) : Option Hold :=
  s.holds.find? fun h => h.scope == .cell || h.scope == .bay y

/-- R113: an entry of scope CELL is present. -/
def State.cellHeld (s : State) : Bool := s.holds.any fun h => h.scope == .cell

/-! ### Work areas (R125, R127) -/

/-- R125: whether an area is enterable at present. -/
def State.enterable (s : State) : Area → Bool
  | .press => s.permit.press == .open && s.permit.closeGrant.isNone && s.permit.shuttleGrant.isNone
  | .load => s.permit.shuttleGrant.isNone

def State.setArea (s : State) (r : Area) (x : AreaRecord) : State :=
  { s with permit.areas := s.permit.areas.set r x }

/-- R127: the waiter of an area is promoted when the area has no holder and is enterable. -/
def State.promote (s : State) (r : Area) : State :=
  let x := s.permit.areas.get r
  match x.holder, x.waiter with
  | none, some u =>
    if s.enterable r then
      (s.setArea r ⟨some u, none⟩).postRole u.role { code := .areaGranted, v1 := areaCode r }
    else s
  | _, _ => s

/-- R127: promotion evaluated for both areas. -/
def State.promoteBoth (s : State) : State := (s.promote .press).promote .load

/-- R127: the promotion that the end of a grant brings, after the rest of the event's effects:
PRESS_AREA for a close grant, each area for a shuttle grant. A close grant that a CLOSED report
consumes passes here too, in an event that evaluates both areas in any case (R109). -/
def State.promoteAfter (s : State) (before : State) : State :=
  if before.permit.shuttleGrant.isSome && s.permit.shuttleGrant.isNone then s.promoteBoth
  else if before.permit.closeGrant.isSome && s.permit.closeGrant.isNone then s.promote .press
  else s

end Sys2Proof.Machine
end

