-- ==== Sys2Proof/Machine/Filing.lean ====
section
/-!
DEFINITION. The history store's operations (R149 to R152, R160) and the filing of a shot (R20 to
R23, R35, R36): one operation shared by PART TAKEN, SHOT ABORT and the warm start.
-/

namespace Sys2Proof.Machine

open Sys2Proof

/-! ### The store -/

/-- R147: the number of record slots. -/
def storeSize : Nat := 512

/-- R160: the pending count at which the store is near full. -/
def nearFullAt : Nat := 448

/-- R149: a record pending export: New or Re-queued. -/
def Record.isPending (r : Record) : Bool := !r.exported || r.amended

/-- R149: a Taken record, the only kind a filing may overwrite. -/
def Record.isTaken (r : Record) : Bool := r.exported && !r.amended

/-- The record with the lowest filing number among those a test picks, with its slot number; `i` is
the number of the list's first slot. -/
def lowestFrom (f : Record → Bool) : Nat → List Record → Option (Nat × Record)
  | _, [] => none
  | i, r :: rs =>
    match lowestFrom f (i + 1) rs with
    | none => if f r then some (i, r) else none
    | some (j, x) => if f r && decide (r.filingNo ≤ x.filingNo) then some (i, r) else some (j, x)

/-- R152: the export head, the pending record with the lowest filing number, with its slot. -/
def History.head (h : History) : Option (Nat × Record) := lowestFrom Record.isPending 0 h.slots

/-- R155, R157: the record that carries a serial, with its slot. -/
def findSerial (serial : Nat) : Nat → List Record → Option (Nat × Record)
  | _, [] => none
  | i, r :: rs => if r.shot.serial = serial then some (i, r) else findSerial serial (i + 1) rs

def History.find (h : History) (serial : Nat) : Option (Nat × Record) := findSerial serial 0 h.slots

def History.put (h : History) (i : Nat) (r : Record) : History :=
  { h with slots := h.slots.set i r }

/-- R150, steps 1 to 4: the lowest NEVER_USED slot takes the record, or else the slot of the Taken
record with the lowest filing number. R159 leaves a slot at every filing of an open shot; were there
none, nothing would be overwritten (notes/assumptions/11). -/
def History.place (h : History) (sh : Shot) (o : ShotOutcome) : History :=
  let r : Record :=
    { filingNo := h.filingCounter + 1, shot := sh, outcome := o, verdict := verdictOf sh.exceptions,
      disposition := none, dispositionAt := none, exported := false, amended := false }
  let counted := { h with filingCounter := h.filingCounter + 1, pending := h.pending + 1 }
  if h.slots.length < storeSize then { counted with slots := h.slots ++ [r] }
  else
    match lowestFrom Record.isTaken 0 h.slots with
    | some (i, _) => counted.put i r
    | none => counted

/-- R160: the notice of a store that is near full. -/
def State.nearFullNotice (s : State) : State :=
  s.postRole .line
    { code := .historyNearFull, v1 := s.history.pending, v2 := s.openShots }

/-- R160: the near-full judgement after a change of the pending count. Within a start it is not
made: the derivation at the start's end replaces it. -/
def State.judgeNearFull (s : State) : State :=
  if s.phase ≠ .running then s
  else if s.history.armed && decide (nearFullAt ≤ s.history.pending) then
    { s with history.armed := false }.nearFullNotice
  else if !s.history.armed && decide (s.history.pending < nearFullAt) then
    { s with history.armed := true }
  else s

/-- R160: the flag derived at the end of every start. -/
def State.deriveNearFull (s : State) : State :=
  if nearFullAt ≤ s.history.pending then { s with history.armed := false }.nearFullNotice
  else { s with history.armed := true }

/-! ### Filing -/

def State.mapSlotUse (s : State) (i : Ix16) (f : Nat → Nat) : State :=
  { s with recipes := s.recipes.set i { s.recipes.get i with inUse := f (s.recipes.get i).inUse } }

/-- R22: STATUS RELEASE_DUE when a count becomes equal to a non-zero interval by the rise to it. -/
def State.noteRelease (s : State) (old new interval : Nat) (y : Option Bay) : State :=
  if interval ≠ 0 ∧ new = interval ∧ old ≠ new then
    s.postSubs { code := .releaseDue, bay := y, v1 := new }
  else s

/-- R22, R35: the counts a filed shot that reached CLOSED raises, judged against its own recipe. -/
def State.raiseCounts (s : State) (y : Bay) (sh : Shot) : State :=
  let r := s.bays.get y
  let lower := satAdd 65535 r.lowerCount 1
  let upper := satAdd 65535 s.upperCount 1
  let s1 := { s with upperCount := upper }.setBay y
    { r with lowerCount := lower, shotsOnBinding := satAdd 4294967295 r.shotsOnBinding 1 }
  match s.shotRecipe sh with
  | none => s1
  | some c =>
    (s1.noteRelease r.lowerCount lower c.lowerInterval (some y)).noteRelease
      s.upperCount upper c.upperInterval none

/-- R36: a close grant is withdrawn, with cause 7, when an event makes the upper release due. -/
def State.withdrawIfDue (s : State) (wasDue : Bool) : State :=
  if s.upperDue && !wasDue then s.withdrawClose 7 else s

/-- R69: a filing that leaves both slots empty completes a pending park. -/
def State.completePark (s : State) : State :=
  if s.heat.parkPending && s.openShots == 0 then
    ((s.setPark false).setMode .off).postRole .line { code := .parked }
  else s

/-- R20 to R23: an open shot of a bay filed with an outcome. What a station sees of it comes about
in one event: the slot and the cure mark (R73) are emptied, the in-use count falls, the record is
placed, the counts rise if the shot reached CLOSED, STATUS SHOT_FILED is queued, and a pending park
may complete. The near-full notice counts the shots that are open after the filing
(notes/assumptions/10). -/
def State.fileShot (s : State) (y : Bay) (o : ShotOutcome) : State :=
  match s.slots.get y with
  | none => s
  | some sh =>
    let s1 := { s.setSlot y none with cureMarks := s.cureMarks.set y none }
    let s2 := s1.mapSlotUse sh.recipeSlot (· - 1)
    let s3 := { s2 with history := s2.history.place sh o }.judgeNearFull
    let s4 := if sh.closedAt.isSome then (s3.raiseCounts y sh).withdrawIfDue s3.upperDue else s3
    let s5 := s4.postSubs
      { code := .shotFiled, bay := some y, serial := some sh.serial,
        v1 := (verdictOf sh.exceptions).code, v2 := o.code }
    s5.completePark

end Sys2Proof.Machine
end

