-- ==== Sys2Proof/Machine/Flags.lean ====
section
/-!
DEFINITION. The port error flags (R180): setting one with its report, and clearing.
-/

namespace Sys2Proof.Machine

open Sys2Proof

def ErrorFlags.get (f : ErrorFlags) : FlagName → ErrorFlag
  | .check => f.check | .length => f.length | .unknown => f.unknown
  | .permission => f.permission | .noticeLost => f.noticeLost

def ErrorFlags.put (f : ErrorFlags) (n : FlagName) (v : ErrorFlag) : ErrorFlags :=
  match n with
  | .check => { f with check := v } | .length => { f with length := v }
  | .unknown => { f with unknown := v } | .permission => { f with permission := v }
  | .noticeLost => { f with noticeLost := v }

/-- R180: CHECK, LENGTH, UNKNOWN or PERMISSION set by its condition. A flag already set stays as it
is. A change from clear to set with report-port-errors on queues STATUS PORT_ERROR for LINE, and the
reported indication is then set. -/
def State.raiseFlag (s : State) (p : PortId) (n : FlagName) : State :=
  let q := s.ports.get p
  if (q.flags.get n).set then s
  else if s.cfg.reportErrors then
    (s.setPort p { q with flags := q.flags.put n ⟨true, true⟩ }).postRole .line
      { code := .portError, v1 := p.toNat, v2 := n.code }
  else s.setPort p { q with flags := q.flags.put n ⟨true, false⟩ }

/-- R181: the flags named are cleared with their reported indications. -/
def clearFlags (f : ErrorFlags) : List FlagName → ErrorFlags
  | [] => f
  | n :: ns => clearFlags (f.put n ⟨false, false⟩) ns

end Sys2Proof.Machine
end

