-- ==== Sys2Proof/Machine/Outputs.lean ====
section
/-!
DEFINITION. The output lines whose level the manual fixes from the state: the permit lines (R108,
R133), ATTN (R186), and the bytes a port clocks out (R177). With MAIN absent, RESET asserted or a
start in progress they are inactive (R190, R193).
-/

namespace Sys2Proof.Machine

open Sys2Proof

/-- The blocks act: MAIN present, RESET not asserted, no start in progress. -/
def State.isRunning (s : State) : Bool := s.phase == .running

/-- R108: CLOSE_OK is asserted while a close grant is outstanding. -/
def State.closeOk (s : State) : Bool := s.isRunning && s.permit.closeGrant.isSome

/-- R108: SHUTTLE_OK is asserted while a shuttle grant is outstanding. -/
def State.shuttleOk (s : State) : Bool := s.isRunning && s.permit.shuttleGrant.isSome

/-- R133: EJECT_OK is asserted while the ejection record is ACTIVE. -/
def State.ejectOk (s : State) : Bool := s.isRunning && s.eject.state == .active

/-- R186: the conditions of ATTN on a port. -/
def Port.attn (q : Port) : Bool :=
  (q.queue.any fun x => x.notice.code.cls == .alarm)
    || decide (q.trigger ≤ q.queue.length)
    || (match q.queue with
        | x :: _ => x.aged
        | [] => false)

/-- R186: the ATTN output of a port. -/
def State.attn (s : State) (p : PortId) : Bool := s.isRunning && (s.ports.get p).attn

/-- R61: the level of heater line HTn. -/
def State.heaterOn (s : State) (z : ZoneId) : Bool := s.isRunning && s.heat.lines.get z

/-- R177: the byte the part clocks out at a place of a port's frame: the status byte, then the
reply, then 00h; nothing is driven outside a frame. -/
def State.outByte (s : State) (p : PortId) (i : Nat) : Option Byte :=
  (s.ports.get p).frame.map fun f => f.out.getD i 0x00#8

end Sys2Proof.Machine
end

