-- ==== Sys2Proof/Machine/WeighOps.lean ====
section
/-!
DEFINITION. Load channel arithmetic (R88 to R92) and the weigh/tare slot's endings (R95 to R101).
-/

namespace Sys2Proof.Machine

open Sys2Proof

/-! ### Channel arithmetic -/

/-- R88: a sample placed at the end of the queue; at 16 the oldest is removed first. -/
def Channel.take (c : Channel) (x : LoadSample) : Channel :=
  { queue := (if c.queue.length < 16 then c.queue else c.queue.drop 1) ++ [x]
    arrivals := satAdd 65535 c.arrivals 1 }

/-- R89: the last N samples held, or all of them if fewer. -/
def window (n : Nat) (q : List LoadSample) : List LoadSample := q.drop (q.length - n)

/-- The largest and the smallest of the counts of a window that holds a sample. -/
def highest (ws : List LoadSample) : Int :=
  match ws with
  | [] => 0
  | x :: xs => xs.foldl (fun m y => max m y.count.toInt) x.count.toInt

def lowest (ws : List LoadSample) : Int :=
  match ws with
  | [] => 0
  | x :: xs => xs.foldl (fun m y => min m y.count.toInt) x.count.toInt

/-- R89: the average of a window, rounded to nearest. -/
def average (ws : List LoadSample) : Int :=
  roundDiv (ws.foldl (fun t y => t + y.count.toInt) 0) ws.length

/-- R89: a window of at least N samples, none OVERRANGE, whose spread is within the band. -/
def isStable (n band : Nat) (q : List LoadSample) : Bool :=
  let ws := window n q
  decide (n ≤ q.length) && ws.all (fun x => !x.overrange) && decide (highest ws - lowest ws ≤ band)

/-- R90: (A − Z) × S / 65,536 rounded to nearest, before the limit of the channel's kind. -/
def ChannelCal.convert (k : ChannelCal) (a : Int) : Int := roundDiv ((a - k.zero) * k.span) 65536

/-- R90: the gross weight of channel W, in grams. -/
def State.grossWeight (s : State) : Int :=
  let k := s.cfg.channels.w
  clampInt (-99999) 99999 (k.convert (average (window k.window s.channels.w.queue)))

/-- R90: the ejector force of a bay's channel, in 0.1 kN. -/
def State.forceValue (s : State) (y : Bay) : Nat :=
  let k := s.cfg.channels.get (forceChan y)
  (clampInt 0 65535 (k.convert (average (window k.window (s.channels.get (forceChan y)).queue)))).toNat

/-- R92: a channel's queue emptied. -/
def State.emptyChannel (s : State) (c : Chan) : State :=
  { s with channels := s.channels.set c Channel.start }

/-- R97, R101, R135: why a channel cannot deliver at an acceptance: unmapped (node address 0) or its
node MISSING (its address); absent when neither holds. -/
def State.deadNode (s : State) (c : Chan) : Option Nat :=
  match s.cfg.loadMap.get c with
  | none => some 0
  | some n => if (s.sensor.nodes.get n).state = .missing then some (nodeAddress n) else none

/-! ### Endings of a weigh or a tare -/

/-- R93: the slot NONE and the timer stopped. -/
def State.freeSlot (s : State) : State := { s with weigh.slot := .none, weigh.timer := none }

/-- R95 to R99: a weigh ends with a completion to the LOADER port. -/
def State.endWeigh (s : State) (y : Bay) (c : NoticeCode) (v1 v2 : Int) : State :=
  s.freeSlot.postRole .loader { code := c, bay := some y, serial := serialOf s y, v1 := v1, v2 := v2 }

/-- R101: a tare ends with a completion to the port of the role that requested it. -/
def State.endTare (s : State) (r : Role) (c : NoticeCode) (v1 v2 : Int) : State :=
  s.freeSlot.postRole r { code := c, v1 := v1, v2 := v2 }

/-- R95, step 3: a piece appended to a bay's list, its capture time taken as R3 describes. -/
def Shot.appendPiece (sh : Shot) (net : Int) (t : Timestamp) : Shot :=
  let piece : Piece := ⟨sh.pieces.length + 1, net, t⟩
  { sh with pieces := sh.pieces ++ [piece], chargeTotal := sh.chargeTotal + net }.marked t

/-- The pieces in the list of a bay's open shot. -/
def State.pieceCount (s : State) (y : Bay) : Nat :=
  match s.slots.get y with
  | some sh => sh.pieces.length
  | none => 0

/-- R95: the capture of a weight over a stable window. -/
def State.capture (s : State) (y : Bay) : State :=
  let net := s.grossWeight - s.weigh.tare
  if s.cfg.capacity < net then s.endWeigh y .overload net 0
  else if net < s.cfg.minPiece then s.endWeigh y .pieceTooLight net 0
  else (s.mapShot y fun sh => sh.appendPiece net s.stamp).endWeigh y .weighDone net (s.pieceCount y + 1)

/-- R101: a completed tare. -/
def State.completeTare (s : State) (r : Role) : State :=
  { s with weigh.tare := s.grossWeight }.endTare r .tareDone s.grossWeight s.weigh.tare

/-- R88, R95, R101: what a W arrival does once the sample is queued. -/
def State.judgeWeigh (s : State) : State :=
  if isStable s.cfg.channels.w.window s.cfg.bands.w s.channels.w.queue then
    match s.weigh.slot with
    | .none => s
    | .weigh y => s.capture y
    | .tare r => s.completeTare r
  else s

/-- R97, R101: W cannot deliver: the pending weigh faults and the pending tare fails. -/
def State.weighLost (s : State) (address : Nat) : State :=
  match s.weigh.slot with
  | .none => s
  | .weigh y => s.endWeigh y .weighFault address 0
  | .tare r => s.endTare r .tareFailed 2 0

/-- R96: the spread of the last N samples, or 0 if fewer than N had arrived. -/
def State.spreadW (s : State) : Int :=
  let n := s.cfg.channels.w.window
  let q := s.channels.w.queue
  if q.length < n then 0 else highest (window n q) - lowest (window n q)

end Sys2Proof.Machine
end

