-- ==== Sys2Proof/Machine/EjectOps.lean ====
section
/-!
DEFINITION. The demould block's shared operations (spec file 07): what a force arrival, a lost force
node, a lost take-out unit or a released area does to the ejection, and its closing steps.
-/

namespace Sys2Proof.Machine

open Sys2Proof

/-- R136 to R140: an ACTIVE ejection stopped with its cause. A record not ACTIVE keeps its cause. -/
def State.stopEject (s : State) (c : StopCause) : State :=
  if s.eject.state = .active then { s with eject.state := .stopped, eject.cause := c } else s

/-- R136, R137: the record while it ejects on a bay. -/
def State.ejecting (s : State) (y : Bay) : Bool := s.eject.state != .idle && s.eject.bay == some y

/-- R136: the abort limit of the shot's recipe is reached. -/
def State.atAbortLimit (s : State) (y : Bay) (v : Nat) : Bool :=
  match (s.slots.get y).bind s.shotRecipe with
  | some r => decide (r.abortLimit ≤ v)
  | none => false

/-- R136, R137: a force arrival on the channel of a bay. -/
def State.forceArrival (s : State) (y : Bay) (v : Nat) (overrange : Bool) : State :=
  if s.ejecting y then
    let s1 := { s with eject.peak := max s.eject.peak v }
    if s.eject.state = .active ∧ (s.atAbortLimit y v || overrange) = true then
      ((s1.stopEject .overforce).addExc y .ejectOverforce).postAll
        { code := .ejectOverforce, bay := some y, serial := s.eject.serial,
          v1 := v, v2 := if overrange then 1 else 0 }
    else s1
  else s

/-- R138: ALARM FORCE_BLIND with its exception; the node address is 0 for an unmapped channel. -/
def State.blindAlarm (s : State) (y : Bay) (address : Nat) : State :=
  (s.addExc y .forceBlind).postAll
    { code := .forceBlind, bay := some y, serial := s.eject.serial, v1 := address }

/-- R138: the node of a bay's force channel goes MISSING. -/
def State.forceLost (s : State) (y : Bay) (address : Nat) : State :=
  if s.ejecting y then (s.stopEject .forceBlind).blindAlarm y address else s

/-- R18, R142: the record's peak becomes the shot's demould peak force. -/
def State.recordPeak (s : State) (y : Bay) : State :=
  s.mapShot y fun sh => { sh with demouldPeak := some s.eject.peak }

/-- R144: the peak is above the demould force limit and the ejection was not stopped for overforce. -/
def State.isSticking (s : State) (y : Bay) : Bool :=
  match (s.slots.get y).bind s.shotRecipe with
  | some r => decide (r.demouldLimit < s.eject.peak) && s.eject.cause != .overforce
  | none => false

/-- R144: the sticking judgement. -/
def State.judgeSticking (s : State) (y : Bay) : State :=
  if s.isSticking y then (s.addExc y .sticking).setMouldCheck y true else s

/-- R142: the closing steps of an ejection on a bay; `expired` for the ejection timer's expiry. -/
def State.closeEject (s : State) (y : Bay) (expired : Bool) : State :=
  let s1 := (s.recordPeak y).judgeSticking y
  let s2 := if expired then s1.addExc y .ejectTimeout else s1
  { s2 with eject := Eject.start }.advance y .ejected

end Sys2Proof.Machine
end

