-- ==== Sys2Proof/Machine/SensorOps.lean ====
section
/-!
DEFINITION. The sensor link's shared operations (spec file 09): judging a reply (R167), the node
states (R168), the hand-off of a lost node (R169) and the delivery of samples (R170, R171).
-/

namespace Sys2Proof.Machine

open Sys2Proof

def State.setNode (s : State) (n : Ix16) (x : Node) : State :=
  { s with sensor.nodes := s.sensor.nodes.set n x }

/-- The kind a reply's data show. -/
def nodeDataKind : NodeData → NodeKind
  | .temp _ => .temp | .load _ => .load

/-- R167: the check of a reply is the CRC-16 of the bytes that precede it, and its length fits its
kind. -/
def replyIntact (r : NodeReply) : Bool := r.fits && r.check == crc16 r.body

/-- R167: why a complete reply is a miss for the node polled; absent for a good reply. A reply whose
length does not fit and whose address or kind is wrong, with a right check, meets two rows of the
table: that it counts as a CHECK miss is the model's choice (notes/assumptions/26). -/
def State.replyMiss (s : State) (n : Ix16) (r : NodeReply) : Option MissReason :=
  if !replyIntact r then some .check
  else if r.address.toNat ≠ nodeAddress n ∨ nodeDataKind r.data ≠ s.cfg.nodeKinds.get n then
    some .wrongNode
  else none

/-- The load channel a node is mapped to (R165: at most one). -/
def State.channelOf (s : State) (n : Ix16) : Option Chan :=
  if s.cfg.loadMap.w = some n then some .w
  else if s.cfg.loadMap.fa = some n then some .fa
  else if s.cfg.loadMap.fb = some n then some .fb
  else none

/-- R169: the loss of a LOAD node handed to its channel; a TEMP node's loss is handed to no block. -/
def State.handLoss (s : State) (n : Ix16) : State :=
  match s.cfg.nodeKinds.get n, s.channelOf n with
  | .load, some .w => s.weighLost (nodeAddress n)
  | .load, some .fa => s.forceLost .a (nodeAddress n)
  | .load, some .fb => s.forceLost .b (nodeAddress n)
  | _, _ => s

/-- R168: STATUS NODE_STATE for LINE. -/
def State.nodeNotice (s : State) (n : Ix16) (st : NodeState) : State :=
  s.postRole .line { code := .nodeState, v1 := nodeAddress n, v2 := st.code }

/-- R168: a miss of the polled node, and R169 at the miss that makes it MISSING. -/
def State.nodeMiss (s : State) (n : Ix16) (r : MissReason) : State :=
  let x := s.sensor.nodes.get n
  let misses := satAdd 255 x.misses 1
  let s1 := s.setNode n { x with misses := misses, lastMiss := some r }
  if (x.state = .waiting ∨ x.state = .ok) ∧ 3 ≤ misses then
    ((s1.setNode n { x with misses := misses, lastMiss := some r, state := .missing }).nodeNotice n
      .missing).handLoss n
  else s1

/-- R171, R88, R91: a load sample arrives at its channel. -/
def State.loadArrival (s : State) (c : Chan) (x : LoadSample) : State :=
  let s1 := { s with channels := s.channels.set c ((s.channels.get c).take x) }
  match c with
  | .w => s1.judgeWeigh
  | .fa => s1.forceArrival .a (s1.forceValue .a) x.overrange
  | .fb => s1.forceArrival .b (s1.forceValue .b) x.overrange

/-- R170, R171: the data of a good reply delivered. -/
def State.deliver (s : State) (n : Ix16) (d : NodeData) : State :=
  match d with
  | .temp q =>
    s.setNode n { s.sensor.nodes.get n with
      channels := Quad.ofFn fun i => ⟨some (q.get i), true⟩ }
  | .load x =>
    match s.channelOf n with
    | some c => s.loadArrival c x
    | none => s

/-- R168: a good reply: the state change and its notice first, then the delivery. -/
def State.nodeGood (s : State) (n : Ix16) (d : NodeData) : State :=
  let x := s.sensor.nodes.get n
  let s1 := s.setNode n { x with state := .ok, misses := 0 }
  let s2 := if x.state = .missing then s1.nodeNotice n .ok else s1
  s2.deliver n d

/-- R166: the next configured address above the one polled, or the end of the round. -/
def nextNode (kinds : Hex NodeKind) (n : Ix16) : Option Ix16 :=
  Ix16.all.find? fun m => decide (n.toNat < m.toNat) && kinds.get m != .unused

/-- R166: the next poll of the round is sent, or the round ends. -/
def State.nextPoll (s : State) (n : Ix16) : State :=
  { s with sensor.polling := nextNode s.cfg.nodeKinds n }

end Sys2Proof.Machine
end

