-- ==== Sys2Proof/Machine/Ops.lean ====
section
/-!
DEFINITION. What every command shares. An event of the running part (`event`), with the promotion
that the end of a grant brings (R127) and the idle timer's conditions judged again (R66) once its
other effects are done; a request served to the port that routed it (`serve`, R178); the reply
buffer; the return of a port to ONLINE (R187, R130) and the taking of a frame's request (R178).
-/

namespace Sys2Proof.Machine

open Sys2Proof

/-! ### Events -/

/-- R127, R66: what follows the effects of any event. -/
def State.settle (s before : State) : State := (s.promoteAfter before).idleSettled

/-- An event of the running part. While a start is in progress, MAIN is absent or RESET is asserted
no block acts (R190, R192, R193), so the event has no effect. -/
def State.event (s : State) (f : State → State) : State :=
  if s.isRunning then (f s).settle s else s

/-! ### Requests -/

/-- R178: the request a port has routed and whose owner has not yet acted. -/
def State.routed (s : State) (p : PortId) : Option Instr :=
  match (s.ports.get p).buffer with
  | .processing i none => some i
  | .processing _ (some _) => none
  | .idle => none
  | .ready _ => none

def State.setBuffer (s : State) (p : PortId) (b : Buffer) : State :=
  s.setPort p { s.ports.get p with buffer := b }

/-- R178, step 4: the owner's result on its way to the reply buffer. -/
def State.answer (s : State) (p : PortId) (i : Instr) (r : Reply) : State :=
  s.setBuffer p (.processing i (some r))

/-- R178, step 4: the owner acts on the request a port routed to it; its result is then on its way
back. A command that is not the request its port has routed finds nothing to act on. -/
def State.serve (s : State) (p : PortId) (i : Instr) (act : State → State × Reply) : State :=
  s.event fun s =>
    if s.routed p = some i then ((act s).1).answer p i (act s).2 else s

/-! ### Port states -/

/-- R187: the silence limit of a port's role; 0 leaves the timer stopped. -/
def State.silenceTimer (s : State) (p : PortId) : Option Nat :=
  let n := s.cfg.silence.get (s.roleOf p)
  if n = 0 then none else some n

/-- R176, R187: a valid frame takes the port to ONLINE and restarts its silence timer; a PRESS port
that was LOST loses its PRESS_SILENT hold, with STATUS HOLD_CHANGED (R130). -/
def State.portValid (s : State) (p : PortId) : State :=
  let q := s.ports.get p
  let s1 := s.setPort p { q with state := .online, timer := s.silenceTimer p }
  if q.state = .lost ∧ s.roleOf p = .press then s1.setPressSilent false else s1

/-! ### Frames -/

/-- R176: the bytes of a reply after the status byte: result code, data length, data and check. The
layout of data is free (Config.replyLayout); a reply without data has length 0. -/
def Reply.bytes (r : Reply) : List Byte :=
  let d := if r.data.isEmpty then [] else (Config.replyLayout r.data).take 60
  let body := r.code.byte :: BitVec.ofNat 8 d.length :: d
  body ++ [crc8 body]

/-- R177: the reply kind of a port's buffer as a frame begins. -/
def Buffer.kind : Buffer → ReplyKind
  | .idle => .idle
  | .processing _ _ => .shortWait
  | .ready _ => .ready

/-- Formats: bits 1 to 0 reply kind, bit 2 notice-waiting, bit 3 notice-lost, bits 7 to 4 zero. -/
def statusByte (k : ReplyKind) (waiting lost : Bool) : Byte :=
  let kind : Nat := match k with | .idle => 0 | .ready => 1 | .shortWait => 2
  BitVec.ofNat 8 (kind + (if waiting then 4 else 0) + (if lost then 8 else 0))

/-- R177: the frame a port begins: the status byte of the port as it stands, and any ready reply. -/
def Port.beginFrame (q : Port) : Frame where
  kind := q.buffer.kind
  out := statusByte q.buffer.kind (!q.queue.isEmpty) q.flags.noticeLost.set ::
    (match q.buffer with
     | .ready r => r.bytes
     | .idle => []
     | .processing _ _ => [])
  expired := false
  judged := true

/-- R177: a frame that begins within a start: SHORT_WAIT with both notice flags clear, unjudged. -/
def startFrame : Frame := ⟨.shortWait, [statusByte .shortWait false false], false, false⟩

def State.setFrame (s : State) (p : PortId) (f : Option Frame) : State :=
  s.setPort p { s.ports.get p with frame := f }

/-- R177: the reply a READY frame delivered is consumed. -/
def State.consume (s : State) (p : PortId) (k : ReplyKind) : State :=
  if k = .ready then s.setBuffer p .idle else s

/-- R176: a bad frame: its flag is set, and BAD_FRAME is placed in a buffer that was not PROCESSING
when the frame began. -/
def State.badFrame (s : State) (p : PortId) (k : ReplyKind) (n : FlagName) : State :=
  let s1 := s.raiseFlag p n
  if k = .shortWait then s1 else s1.setBuffer p (.ready (Reply.of .badFrame))

/-- R178, steps 1 to 4: the request of a valid frame. -/
def State.takeRequest (s : State) (p : PortId) (code : Byte) (params : List Byte) : State :=
  match ReqKind.ofCode code with
  | none => (s.raiseFlag p .unknown).setBuffer p (.ready (Reply.of .unknown))
  | some k =>
    if s.roleOf p ∉ k.roles then
      (s.raiseFlag p .permission).setBuffer p (.ready (Reply.of .notPermitted))
    else
      match k.parse p params with
      | none => s.setBuffer p (.ready (Reply.of .invalid))
      | some i => s.setBuffer p (.processing i none)

/-- R176 to R178: an ended frame judged, and the request of a valid one taken unless the frame was
answered SHORT_WAIT. -/
def State.endFrame (s : State) (p : PortId) (k : ReplyKind) (bytes : List Byte) (spare : Fin 8) :
    State :=
  let s1 := s.consume p k
  match judgeFrame bytes spare with
  | .badLength => s1.badFrame p k .length
  | .badCheck => s1.badFrame p k .check
  | .valid code params =>
    let s2 := s1.portValid p
    if k = .shortWait then s2 else s2.takeRequest p code params

end Sys2Proof.Machine
end

