-- ==== Sys2Proof/Machine/Charge.lean ====
section
/-!
DEFINITION. The LOADER's requests on a charge: CHARGE BEGIN (spec file 01), and the weighing, the
piece list, CHARGE DONE and TARE (spec file 05).
-/

namespace Sys2Proof.Machine

open Sys2Proof

/-! ### CHARGE BEGIN (R14, R15) -/

/-- R12, R14: the counter value at which the serials are exhausted. -/
def serialTop : Nat := 4294967295

/-- R14: the first check a CHARGE BEGIN fails, or the serial and the recipe slot, with its recipe,
that the shot takes. A bound bay names a VALID slot (R32), so check 3 finds the recipe as well. -/
def State.judgeCharge (s : State) (y : Bay) : Except ResultCode (Nat × Ix16 × Recipe) :=
  if (s.slots.get y).isSome then .error .wrongStage
  else if s.permit.position.outBay ≠ some y then .error .notOut
  else
    match (s.bays.get y).recipeSlot, s.bayRecipe y with
    | some i, some r =>
      match s.serial with
      | none => .error .serialUnset
      | some n =>
        if n = serialTop then .error .serialExhausted
        else if storeSize ≤ s.history.pending + s.openShots then .error .historyFull
        else if s.lowerDue y then .error .releaseDue
        else if s.heat.parkPending then .error .parking
        else if s.heat.mode = .setback then .error .heatSetback
        else if s.heat.mode = .off then .error .heatOff
        else .ok (n, i, r)
    | _, _ => .error .notBound

/-- R2, R15: the context of a shot at its opening. -/
def Shot.opening (n : Nat) (y : Bay) (i : Ix16) (r : Recipe) (revision mould : Nat)
    (t : Timestamp) : Shot where
  serial := n
  bay := y
  recipeSlot := i
  recipeNumber := r.number
  recipeRevision := revision
  mouldId := mould
  stage := .charging
  pieces := []
  chargeTotal := 0
  discards := 0
  dose := 0
  closedDuration := 0
  minCureTemp := none
  maxZoneTemp := none
  pressPeak := none
  demouldPeak := none
  exceptions := []
  openedAt := t
  chargedAt := none
  closedAt := none
  curedAt := none
  pressOpenedAt := none
  ejectedAt := none

/-- R15: the effects of an accepted CHARGE BEGIN. -/
def State.openCharge (s : State) (y : Bay) (n : Nat) (i : Ix16) (r : Recipe) : State :=
  let sh := Shot.opening n y i r (s.recipes.get i).revision (s.bays.get y).mouldId s.stamp
  ({ s.setSlot y (some (sh.marked s.stamp)) with serial := some (n + 1) }.mapSlotUse i
      (· + 1)).postSubs
    { code := .shotStage, bay := some y, serial := some n, v1 := 1, v2 := 0 }

/-- R14, R15, with the wake rule before every check but INVALID. -/
def chargeBeginAct (bay : Byte) (s : State) : State × Reply :=
  match bayOf bay with
  | none => (s, Reply.of .invalid)
  | some y =>
    match s.wake.judgeCharge y with
    | .error c => (s.wake, Reply.of c)
    | .ok (n, i, r) => (s.wake.openCharge y n i r, Reply.of .ok [.nat n])

def execChargeBegin (p : PortId) (bay : Byte) (s : State) : Host.Outcome State Fault Refusal :=
  .next (s.serve p (.chargeBegin p bay) (chargeBeginAct bay))

/-! ### WEIGH PIECE, WEIGH CANCEL, TARE (R94, R98, R100) -/

/-- R94, R100: the slot taken: the W queue emptied and the timer started. -/
def State.takeSlot (s : State) (w : WeighSlot) : State :=
  { s.emptyChannel .w with weigh.slot := w, weigh.timer := some s.cfg.weighTimeout }

/-- R94, step 4, and R100: an operation that W cannot serve ends at once. -/
def State.endDead (s : State) : State :=
  match s.deadNode .w with
  | some a => s.weighLost a
  | none => s

/-- R94: the shot in CHARGING of a bay. -/
def State.chargingShot (s : State) (y : Bay) : Option Shot :=
  match s.slots.get y with
  | some sh => if sh.stage = .charging then some sh else none
  | none => none

/-- R94, check 4: the list holds as many pieces as the recipe allows. -/
def State.listFull (s : State) (sh : Shot) : Bool :=
  match s.shotRecipe sh with
  | some r => decide (r.maxPieces ≤ sh.pieces.length)
  | none => true

/-- R94 -/
def weighPieceAct (bay : Byte) (s : State) : State × Reply :=
  match bayOf bay with
  | none => (s, Reply.of .invalid)
  | some y =>
    if s.weigh.slot ≠ .none then (s, Reply.of .busy)
    else
      match s.chargingShot y with
      | none => (s, Reply.of .wrongStage)
      | some sh =>
        if s.listFull sh then (s, Reply.of .full)
        else
          ((s.takeSlot (.weigh y)).endDead,
            Reply.of .pending [.bay y, .nat sh.serial, .nat (sh.pieces.length + 1)])

def execWeighPiece (p : PortId) (bay : Byte) (s : State) : Host.Outcome State Fault Refusal :=
  .next (s.serve p (.weighPiece p bay) (weighPieceAct bay))

/-- R98 -/
def weighCancelAct (s : State) : State × Reply :=
  match s.weigh.slot with
  | .weigh y =>
    (s.endWeigh y .weighCancelled 1 0, Reply.of .ok [.bay y, Field.optNat (serialOf s y)])
  | .tare _ => (s, Reply.of .wrongStage)
  | .none => (s, Reply.of .wrongStage)

def execWeighCancel (p : PortId) (s : State) : Host.Outcome State Fault Refusal :=
  .next (s.serve p (.weighCancel p) weighCancelAct)

/-- R100 -/
def tareAct (p : PortId) (s : State) : State × Reply :=
  if s.weigh.slot ≠ .none then (s, Reply.of .busy)
  else ((s.takeSlot (.tare (s.roleOf p))).endDead, Reply.of .pending)

def execTare (p : PortId) (s : State) : Host.Outcome State Fault Refusal :=
  .next (s.serve p (.tare p) (tareAct p))

/-! ### REMOVE PIECE, DISCARD CHARGE, CHARGE DONE (R104 to R106) -/

/-- R104 to R106: checks 2 to 4, and the shot with its last piece when they pass. -/
def State.judgeList (s : State) (y : Bay) : Except ResultCode (Shot × Piece) :=
  match s.chargingShot y with
  | none => .error .wrongStage
  | some sh =>
    if s.weigh.slot = .weigh y then .error .busy
    else
      match sh.pieces.getLast? with
      | none => .error .empty
      | some x => .ok (sh, x)

/-- R104: the list without its last piece. -/
def Shot.dropPiece (sh : Shot) (x : Piece) : Shot :=
  { sh with pieces := sh.pieces.dropLast, chargeTotal := sh.chargeTotal - x.net }

/-- R104 -/
def removePieceAct (bay : Byte) (s : State) : State × Reply :=
  match bayOf bay with
  | none => (s, Reply.of .invalid)
  | some y =>
    match s.judgeList y with
    | .error c => (s, Reply.of c)
    | .ok (sh, x) =>
      (s.setSlot y (some (sh.dropPiece x)),
        Reply.of .ok
          [.nat x.number, .num x.net, .nat (sh.dropPiece x).pieces.length,
           .num (sh.dropPiece x).chargeTotal])

def execRemovePiece (p : PortId) (bay : Byte) (s : State) : Host.Outcome State Fault Refusal :=
  .next (s.serve p (.removePiece p bay) (removePieceAct bay))

/-- R105: the list emptied. -/
def Shot.discard (sh : Shot) : Shot :=
  { sh with pieces := [], chargeTotal := 0, discards := satAdd 65535 sh.discards 1,
            exceptions := insertExc .chargeDiscarded sh.exceptions }

/-- R105 -/
def discardChargeAct (bay : Byte) (s : State) : State × Reply :=
  match bayOf bay with
  | none => (s, Reply.of .invalid)
  | some y =>
    match s.judgeList y with
    | .error c => (s, Reply.of c)
    | .ok (sh, _) =>
      (s.setSlot y (some sh.discard),
        Reply.of .ok [.nat sh.pieces.length, .num sh.chargeTotal, .nat sh.discard.discards])

def execDiscardCharge (p : PortId) (bay : Byte) (s : State) : Host.Outcome State Fault Refusal :=
  .next (s.serve p (.discardCharge p bay) (discardChargeAct bay))

/-- R106: both ends of the charge window of a recipe, included. -/
def Recipe.chargeLow (r : Recipe) : Int := (r.chargeTarget : Int) - r.tolLow

def Recipe.chargeHigh (r : Recipe) : Int := (r.chargeTarget : Int) + r.tolHigh

/-- R106: what an UNDER or OVER reply carries. -/
def windowReply (c : ResultCode) (r : Recipe) (sh : Shot) : Reply :=
  Reply.of c [.num sh.chargeTotal, .num r.chargeLow, .num r.chargeHigh, .nat sh.pieces.length]

/-- R106: a charge judged against the window of the shot's recipe. -/
def State.finishCharge (s : State) (y : Bay) (sh : Shot) : State × Reply :=
  match s.shotRecipe sh with
  | none => (s, Reply.of .wrongStage)
  | some r =>
    if sh.chargeTotal < r.chargeLow then (s, windowReply .under r sh)
    else if r.chargeHigh < sh.chargeTotal then (s, windowReply .over r sh)
    else (s.advance y .charged, Reply.of .ok [.num sh.chargeTotal, .nat sh.pieces.length])

/-- R106 -/
def chargeDoneAct (bay : Byte) (s : State) : State × Reply :=
  match bayOf bay with
  | none => (s, Reply.of .invalid)
  | some y =>
    match s.judgeList y with
    | .error c => (s, Reply.of c)
    | .ok (sh, _) => s.finishCharge y sh

def execChargeDone (p : PortId) (bay : Byte) (s : State) : Host.Outcome State Fault Refusal :=
  .next (s.serve p (.chargeDone p bay) (chargeDoneAct bay))

end Sys2Proof.Machine
end

