-- ==== Sys2Proof/Machine/Demould.lean ====
section
/-!
DEFINITION. The take-out unit's requests (spec file 07): EJECT BEGIN, EJECT END and PART TAKEN.
-/

namespace Sys2Proof.Machine

open Sys2Proof

/-- R134, R145: EXTRACT is the holder of LOAD_AREA. -/
def State.extractHoldsLoad (s : State) : Bool :=
  (s.permit.areas.get .load).holder == some .extract

/-- R4, R135: the eject timeout of a shot's recipe. -/
def State.ejectTimeout (s : State) (sh : Shot) : Nat := (s.shotRecipe sh).elim 0 (·.ejectTimeout)

/-- R135: an ejection starts on a bay, blind if its force channel cannot deliver. -/
def State.startEject (s : State) (y : Bay) (sh : Shot) : State :=
  let s1 := s.emptyChannel (forceChan y)
  let begun := fun st c => { s1 with
    eject := { state := st, bay := some y, serial := some sh.serial, peak := 0, cause := c,
               timer := some (s.ejectTimeout sh) } }
  match s.deadNode (forceChan y) with
  | some a => (begun .stopped .forceBlind).blindAlarm y a
  | none => begun .active .none

/-- R134, R135 -/
def ejectBeginAct (bay : Byte) (s : State) : State × Reply :=
  match bayOf bay with
  | none => (s, Reply.of .invalid)
  | some y =>
    if s.eject.state ≠ .idle then
      (s, Reply.of .busy
        [Field.optBay s.eject.bay, Field.optNat s.eject.serial, .nat s.eject.state.code,
         .nat s.eject.peak, .nat s.eject.cause.code])
    else
      match s.slots.get y with
      | none => (s, Reply.of .wrongStage)
      | some sh =>
        if sh.stage ≠ .opened then (s, Reply.of .wrongStage)
        else if s.permit.position.outBay ≠ some y then (s, Reply.of .notOut)
        else if !s.extractHoldsLoad then (s, Reply.of .areaRequired)
        else
          (s.startEject y sh,
            Reply.of .ok
              [.bay y, .nat sh.serial, .nat (s.ejectTimeout sh),
               .nat (s.startEject y sh).eject.state.code])

def execEjectBegin (p : PortId) (bay : Byte) (s : State) : Host.Outcome State Fault Refusal :=
  .next (s.serve p (.ejectBegin p bay) (ejectBeginAct bay))

/-- The members of a bay's exception set. -/
def State.excsOf (s : State) (y : Bay) : List Exc := (s.slots.get y).elim [] (·.exceptions)

/-- R141: the exceptions that an event added to a bay's shot. That they come in ascending number, and
not in the order of the steps that added them, is the model's choice (notes/assumptions/19). -/
def addedExcs (old new : State) (y : Bay) : List Exc :=
  (new.excsOf y).filter fun e => decide (e ∉ old.excsOf y)

/-- R141, R142: a bay other than A or B is INVALID, and not WRONG_STAGE, though no record is on it; that
is the model's choice (notes/assumptions/27). -/
def ejectEndAct (bay : Byte) (s : State) : State × Reply :=
  match bayOf bay with
  | none => (s, Reply.of .invalid)
  | some y =>
    if s.ejecting y then
      let t := s.closeEject y false
      (t, Reply.of .ok
        ([Field.optNat s.eject.serial, .nat s.eject.peak, .nat s.eject.cause.code]
          ++ (addedExcs s t y).map fun e => .nat e.number))
    else (s, Reply.of .wrongStage)

def execEjectEnd (p : PortId) (bay : Byte) (s : State) : Host.Outcome State Fault Refusal :=
  .next (s.serve p (.ejectEnd p bay) (ejectEndAct bay))

/-- R145: the part's condition noted on the shot before the filing. -/
def State.noteDamage (s : State) (y : Bay) (damaged : Bool) : State :=
  if damaged then s.addExc y .partDamaged else s

/-- R145: the serial, the verdict and the outcome a filing reply carries. -/
def filedReply (s : State) (y : Bay) (o : List Field) : Reply :=
  Reply.of .ok ([Field.optNat (serialOf s y), .nat (verdictOf (s.excsOf y)).code] ++ o)

/-- R145 -/
def partTakenAct (bay condition : Byte) (s : State) : State × Reply :=
  match bayOf bay, damagedOf condition with
  | some y, some d =>
    if s.shotStage y ≠ some .ejected then (s, Reply.of .wrongStage)
    else if !s.extractHoldsLoad then (s, Reply.of .areaRequired)
    else
      let t := s.noteDamage y d
      (t.fileShot y .completed, filedReply t y [.nat ShotOutcome.completed.code])
  | _, _ => (s, Reply.of .invalid)

def execPartTaken (p : PortId) (bay condition : Byte) (s : State) :
    Host.Outcome State Fault Refusal :=
  .next (s.serve p (.partTaken p bay condition) (partTakenAct bay condition))

end Sys2Proof.Machine
end

