-- ==== Sys2Proof/Machine/Frames.lean ====
section
/-!
DEFINITION. The events of a station port that no owning block serves (spec file 10): the beginning
and the end of a frame, the frame timeout, an unknown request code, a result's return, a notice's
age and the silence timer's expiry.
-/

namespace Sys2Proof.Machine

open Sys2Proof

/-- R177: FRAME_START. Select cannot be asserted twice, so a port with a frame in progress is left
as it is; within a start the frame is answered SHORT_WAIT and is not judged. -/
def execFrameStart (p : PortId) (s : State) : Host.Outcome State Fault Refusal :=
  .next (
    match (s.ports.get p).frame, s.phase with
    | some _, _ => s
    | none, .running => s.setFrame p (some (s.ports.get p).beginFrame)
    | none, .starting _ => s.setFrame p (some startFrame)
    | none, .stopped => s)

/-- R176: a frame that has outlasted the frame timeout: a reply it was delivering is consumed, and
the frame is bad with LENGTH. -/
def State.lateFrame (s : State) (p : PortId) (k : ReplyKind) : State :=
  (s.consume p k).badFrame p k .length

/-- R176: FRAME_END: the frame leaves the wire; it is judged unless the frame timeout has judged it
already, a start covers it (R177), or no clock edge arrived (a selection without one is no frame). A
select that outlasted the timeout before its first clock edge makes a frame that is bad with LENGTH
(notes/assumptions/25). -/
def State.frameEnds (s : State) (p : PortId) (bytes : List Byte) (spare : Fin 8) : State :=
  match (s.ports.get p).frame with
  | none => s
  | some f =>
    let s1 := s.setFrame p none
    if !f.judged || (bytes.isEmpty && spare == 0) then s1
    else
      s1.event fun s => if f.expired then s.lateFrame p f.kind else s.endFrame p f.kind bytes spare

def execFrameEnd (p : PortId) (bytes : List Byte) (spare : Fin 8) (s : State) :
    Host.Outcome State Fault Refusal :=
  .next (s.frameEnds p bytes spare)

/-- R176: FRAME_TIMEOUT: the frame is judged bad at the expiry, and the rest of it is clocked unread
with 00h going out. Without a clock edge so far there is no frame to judge: only what the wire would
carry from now on changes. -/
def State.frameExpires (s : State) (p : PortId) (clocked : Bool) : State :=
  match (s.ports.get p).frame with
  | none => s
  | some f =>
    if !f.judged || f.expired then s
    else
      s.event fun s =>
        (if clocked then s.lateFrame p f.kind else s).setFrame p
          (some { f with out := [], expired := true, judged := !clocked })

def execFrameTimeout (held : HeldSelect) (s : State) : Host.Outcome State Fault Refusal :=
  .next (s.frameExpires held.port held.clocked)

/-- R178, step 1: UNKNOWN_CODE: the end of a valid frame that carries a code the request table does
not hold (notes/assumptions/6). A code of the table, or more parameters than a frame can carry, is
not this event. -/
def execUnknownCode (p : PortId) (code : Byte) (params : List Byte) (s : State) :
    Host.Outcome State Fault Refusal :=
  .next (
    if (ReqKind.ofCode code).isNone ∧ params.length ≤ 60 then s.frameEnds p (frameOf code params) 0
    else s)

/-- R178, step 4: RESULT_RETURN: the buffer goes from PROCESSING to READY with the owner's result. -/
def State.returnResult (s : State) (p : PortId) : State :=
  match (s.ports.get p).buffer with
  | .processing _ (some r) => s.setBuffer p (.ready r)
  | .processing _ none => s
  | .idle => s
  | .ready _ => s

def execResultReturn (p : PortId) (s : State) : Host.Outcome State Fault Refusal :=
  .next (s.event fun s => s.returnResult p)

/-- The oldest notice of a queue that has not yet reached the age reaches it. -/
def ageOldest : List Queued → List Queued
  | [] => []
  | x :: xs => if x.aged then x :: ageOldest xs else { x with aged := true } :: xs

/-- R186: NOTICE_AGE: the oldest notice reaches an age of 100 ms and ATTN is judged again. Notices
age in the order of their arrival, so when the oldest has already reached the age the event is the
next notice's (notes/assumptions/4). -/
def execNoticeAge (p : PortId) (s : State) : Host.Outcome State Fault Refusal :=
  .next (s.event fun s =>
    s.setPort p { s.ports.get p with queue := ageOldest (s.ports.get p).queue })

/-! ### A port going LOST (R187) -/

/-- R130: the PRESS port goes LOST, but for the promotion that `settle` and `promoteBoth` bring. -/
def pressedStage (o : Option Stage) : Bool := o == some .closed || o == some .cured

/-- R130, step 4: STATION_SILENT on a bay's shot in CLOSED or CURED. -/
def State.silencePressed (s : State) (y : Bay) : State :=
  if pressedStage (s.shotStage y) then s.addExc y .stationSilent else s

/-- R130: the effects of the PRESS port going LOST, in order. -/
def State.pressLost (s : State) : State :=
  let s1 := ((s.withdrawClose 5).withdrawShuttle 2).setPress .unknown
  let s2 := (s1.silencePressed .a).silencePressed .b
  (s2.setPressSilent true).promoteBoth

/-- R99: the LOADER port goes LOST. A tare that LINE requested continues. -/
def State.loaderLost (s : State) : State :=
  match s.weigh.slot with
  | .weigh y => s.endWeigh y .weighCancelled 3 0
  | .tare r => if r = .loader then s.endTare .loader .tareFailed 3 0 else s
  | .none => s

/-- R129: the wait of a LOST station in an area is cancelled; its holder claims are kept. -/
def State.cancelWait (s : State) (u : AreaUser) (r : Area) : State :=
  let x := s.permit.areas.get r
  if x.waiter = some u then
    (s.setArea r { x with waiter := none }).postRole u.role
      { code := .areaCancelled, v1 := areaCode r }
  else s

def State.cancelWaits (s : State) (u : AreaUser) : State :=
  (s.cancelWait u .press).cancelWait u .load

/-- R139: the EXTRACT port goes LOST during an ejection. -/
def State.extractLost (s : State) : State :=
  match s.eject.bay with
  | some y => if s.ejecting y then (s.addExc y .stationSilent).stopEject .stationSilent else s
  | none => s

/-- R187: the effects the owning blocks take when the port of a role goes LOST. -/
def State.stationLost (s : State) (r : Role) : State :=
  match r with
  | .press => s.pressLost
  | .loader => s.loaderLost.cancelWaits .loader
  | .extract => (s.cancelWaits .extract).extractLost
  | .line => s

/-- R187: SILENCE_TIMER_EXPIRY: an ONLINE port with its timer running becomes LOST; ALARM
STATION_LOST goes to every port first, and the owning blocks then take their effects. -/
def State.silenceExpires (s : State) (p : PortId) : State :=
  let q := s.ports.get p
  if q.state = .online ∧ q.timer.isSome then
    ((s.setPort p { q with state := .lost, timer := none }).postAll
      { code := .stationLost, v1 := p.toNat, v2 := roleCode (s.roleOf p) }).stationLost (s.roleOf p)
  else s

def execSilenceTimerExpiry (p : PortId) (s : State) : Host.Outcome State Fault Refusal :=
  .next (s.event fun s => s.silenceExpires p)

end Sys2Proof.Machine
end

