-- ==== Sys2Proof/Machine/CureOps.lean ====
section
/-!
DEFINITION. The cure step (spec file 04): closed duration, the blind check, cure temperature and
over-temperature, the rate factor, the dose, the stage judgement and overstay, in that order.
-/

namespace Sys2Proof.Machine

open Sys2Proof

/-- Spec file 00: the cure dose saturates at 4,294,967,295. -/
def doseTop : Nat := 4294967295

/-- R80: the rate factor for an offset from the cure reference, in 0.1 °C. -/
def rateFactor (table : Hex Nat) (d : Int) : Nat :=
  if d < -400 then 0
  else if 350 ≤ d then table.get ⟨.n3, .n3⟩
  else
    let k := (d + 400).toNat / 50
    let r := (d + 400).toNat % 50
    let f := fun i => match Ix16.ofNat? i with
      | some j => table.get j
      | none => 0
    (f k * (50 - r) + f (k + 1) * r + 25) / 50

/-- R77: a curing zone makes the step blind: not valid this period, or in FAULT. -/
def Zone.isBlind (z : Zone) : Bool := !z.validNow || z.state == .fault

/-- R77: the eight curing zones of a bay hold one that makes its step blind. -/
def State.cureBlind (s : State) (y : Bay) : Bool :=
  (curingZones y).any fun z => (s.heat.zones.get z).isBlind

/-- The latest temperatures of a bay's curing zones (all present when no zone is blind). -/
def State.cureTemps (s : State) (y : Bay) : List Int :=
  (curingZones y).filterMap fun z => (s.heat.zones.get z).latest

/-- R78: the lowest and the highest of the temperatures. -/
def lowestTemp : List Int → Int
  | [] => 0
  | t :: ts => ts.foldl min t

def highestTemp : List Int → Int
  | [] => 0
  | t :: ts => ts.foldl max t

/-- R78 to R81: the measured part of a step that is not blind. -/
def Shot.measure (sh : Shot) (r : Recipe) (table : Hex Nat) (temps : List Int) : Shot :=
  let cure := lowestTemp temps
  let top := highestTemp temps
  let f := rateFactor table (cure - r.cureRef)
  { sh with
    minCureTemp := some (match sh.minCureTemp with | some t => min t cure | none => cure)
    maxZoneTemp := some (match sh.maxZoneTemp with | some t => max t top | none => top)
    exceptions :=
      if temps.any fun t => decide (r.overTemp < t) then insertExc .overtemp sh.exceptions
      else sh.exceptions
    dose := min (sh.dose + f) doseTop }

/-- R82, R83: the shot becomes CURED: the stage advance, the cure mark, and COMPLETION CURED to
PRESS with the closed duration and how the cure ended (0 by dose, 1 by time). -/
def State.makeCured (s : State) (y : Bay) (duration : Nat) (byTime : Bool) : State :=
  let s1 := s.advance y .cured
  { s1 with cureMarks := s1.cureMarks.set y (some duration) }.postRole .press
    { code := .cured, bay := some y, serial := serialOf s y, v1 := duration,
      v2 := if byTime then 1 else 0 }

/-- R82, R83: the stage judgement of a shot in CLOSED. -/
def State.judgeCured (s : State) (y : Bay) (sh : Shot) (r : Recipe) : State :=
  if r.cureTarget * 256 ≤ sh.dose ∧ r.minClosed ≤ sh.closedDuration then
    s.makeCured y sh.closedDuration false
  else if r.maxClosed ≤ sh.closedDuration then
    (s.addExc y .undercure).makeCured y sh.closedDuration true
  else s

/-- R84: the overstay judgement of a shot that was CURED before the step. -/
def State.judgeOverstay (s : State) (y : Bay) (sh : Shot) (r : Recipe) : State :=
  match s.cureMarks.get y with
  | some mark => if mark + r.overstay ≤ sh.closedDuration then s.addExc y .overstay else s
  | none => s

/-- R75 to R84: one cure step for a bay, if its shot is in CLOSED or CURED. -/
def State.cureStep (s : State) (y : Bay) : State :=
  match s.slots.get y with
  | none => s
  | some sh =>
    if sh.stage = .closed ∨ sh.stage = .cured then
      match s.shotRecipe sh with
      | none => s
      | some r =>
        let counted := { sh with closedDuration := satAdd 65535 sh.closedDuration 1 }
        let stepped :=
          if s.cureBlind y then
            { counted with exceptions := insertExc .cureBlind counted.exceptions }
          else counted.measure r s.cfg.rateTable (s.cureTemps y)
        let s1 := s.setSlot y (some stepped)
        if sh.stage = .closed then s1.judgeCured y stepped r
        else s1.judgeOverstay y stepped r
    else s

end Sys2Proof.Machine
end

