-- ==== Sys2Proof/Machine/PeriodOps.lean ====
section
/-!
DEFINITION. The five stages of the heat period (spec file 03, section 3.3): take-up (R48 to R50),
ramp (R51), PI (R52 to R54), budget arbitration (R55 to R60) and reload (R61).
-/

namespace Sys2Proof.Machine

open Sys2Proof

/-! ### Take-up -/

/-- The temperature channel a zone is mapped to. -/
def State.zoneChannel (s : State) (z : ZoneId) : Option TempChannel :=
  (s.cfg.zoneMap.get z).map fun m => (s.sensor.nodes.get m.node).channels.get m.channel

/-- R48: the sample a zone takes at take-up: the channel's latest if its fresh flag is set. -/
def State.freshSample (s : State) (z : ZoneId) : Option TempSample :=
  match s.zoneChannel z with
  | some c => if c.fresh then c.latest else none
  | none => none

/-- R48: the value of a valid sample. -/
def validValue : Option TempSample → Option Int
  | some x => if x.status = .ok ∧ -500 ≤ x.value ∧ x.value ≤ 4500 then some x.value else none
  | none => none

/-- R48: the reason an invalid sample falls under. -/
def invalidReason : Option TempSample → Nat
  | none => 1
  | some x => if x.status = .open then 2 else 3

/-- R48: the fresh flag of each mapped channel cleared by the zone that takes it. -/
def State.clearFresh (s : State) : List ZoneId → State
  | [] => s
  | z :: zs =>
    match s.cfg.zoneMap.get z with
    | none => s.clearFresh zs
    | some m =>
      let x := s.sensor.nodes.get m.node
      let c := x.channels.get m.channel
      let x' := { x with channels := x.channels.set m.channel { c with fresh := false } }
      { s with sensor.nodes := s.sensor.nodes.set m.node x' }.clearFresh zs

/-- R48, R49: the sample recorded and the consecutive counts of a zone that is not OFF. -/
def Zone.counted (z : Zone) (v : Option Int) : Zone :=
  let z1 := { z with latest := (match v with | some t => some t | none => z.latest)
                     validNow := v.isSome }
  if z.state = .off then z1
  else
    match v with
    | some _ => { z1 with validCount := satAdd 255 z.validCount 1, invalidCount := 0 }
    | none => { z1 with invalidCount := satAdd 255 z.invalidCount 1, validCount := 0 }

/-- R49: entry to FAULT. -/
def Zone.enterFault (z : Zone) : Zone :=
  { z with state := .fault, requested := 0, integrator := 0, effective := none, rampAcc := 0,
           atTemp := false }

/-- R50: recovery from FAULT, with a setpoint source or without. -/
def Zone.recover (z : Zone) : Zone :=
  match z.target with
  | some _ => { z with state := .ramp, effective := z.latest, integrator := 0, rampAcc := 0 }
  | none => { z with state := .idle }

/-- R49: the zone goes to FAULT at this take-up. -/
def Zone.faults (z : Zone) : Bool :=
  (z.state == .idle || z.state == .ramp || z.state == .regulate) && decide (3 ≤ z.invalidCount)

/-- R50: the zone leaves FAULT at this take-up. -/
def Zone.recovers (z : Zone) : Bool := z.state == .fault && decide (8 ≤ z.validCount)

/-- R48 to R50: a zone after take-up, with whether it recovered in it. -/
def Zone.takeUp (z : Zone) (v : Option Int) : Zone × Bool :=
  let c := z.counted v
  if c.faults then (c.enterFault, false)
  else if c.recovers then (c.recover, true)
  else (c, false)

/-- R49, R50: the notices of take-up. That several zones' notices come by ascending zone number is
the model's choice (notes/assumptions/18). -/
def State.takeUpNotices (s : State) (old : State) : List ZoneId → State
  | [] => s
  | z :: zs =>
    let x := old.heat.zones.get z
    let c := x.counted (validValue (old.freshSample z))
    let s1 :=
      if c.faults then
        s.postAll { code := .zoneFault, v1 := z.number, v2 := invalidReason (old.freshSample z) }
      else if c.recovers then s.postSubs { code := .zoneRecovered, v1 := z.number }
      else s
    s1.takeUpNotices old zs

/-! ### Ramp -/

/-- R51: the ramp step of a zone whose effective setpoint `e` differs from its target `t`: the
accumulator gains R, and one step of 0.1 °C is taken for each whole 60 in it, until the target. -/
def rampStep (limit acc : Nat) (e t : Int) : Int × Nat :=
  if limit = 0 then (t, 0)
  else
    let sum := acc + limit
    let gap := (t - e).natAbs
    let k := min (sum / 60) gap
    let e' := if e < t then e + k else e - k
    if k = gap then (e', 0) else (e', sum - 60 * k)

/-- R51: the state of a regulating zone once its ramp stage is done. -/
def Zone.rampState (z : Zone) : Zone :=
  if z.effective.isSome ∧ z.effective = z.target then { z with state := .regulate }
  else { z with state := .ramp }

/-- R51: the ramp stage of a zone; `recovered` says that this take-up set its effective setpoint. -/
def Zone.rampStage (z : Zone) (limit : Nat) (recovered : Bool) : Zone :=
  if z.state = .ramp ∨ z.state = .regulate then
    (if recovered then z
     else
      match z.effective, z.target with
      | none, _ => if z.validNow then { z with effective := z.latest, rampAcc := 0 } else z
      | some e, some t =>
        if e = t then z
        else
          let (e', a) := rampStep limit z.rampAcc e t
          { z with effective := some e', rampAcc := a }
      | some _, none => z).rampState
  else z

/-! ### PI -/

/-- R52, step 1: the error, clamped. -/
def piError (e t : Int) : Int := clampInt (-1000) 1000 (e - t)

/-- R52, steps 2 and 3: the requested duty. -/
def piDuty (g : Gains) (err i : Int) : Nat := (clampInt 0 1000 ((g.kp * err + i) / 256)).toNat

/-- R53: the integrator is held in this period. -/
def piHeld (u : Nat) (err : Int) (limited warning : Bool) : Bool :=
  (u == 1000 && decide (0 < err)) || (u == 0 && decide (err < 0))
    || (limited && decide (0 < err)) || warning

/-- R52 to R54: the PI stage of a zone. -/
def Zone.piStage (z : Zone) (g : Gains) (cutback : Int) (warning : Bool) : Zone :=
  if z.state = .ramp ∨ z.state = .regulate then
    match z.effective, z.latest with
    | none, _ => { z with requested := 0 }
    | some e, some t =>
      if !z.validNow then z
      else if cutback ≤ t then { z with requested := 0 }
      else
        let err := piError e t
        let u := piDuty g err z.integrator
        { z with
          requested := u
          integrator :=
            if piHeld u err z.limited warning then z.integrator
            else clampInt 0 256000 (z.integrator + g.ki * err) }
    | some _, none => z
  else { z with requested := 0 }

/-- R42: the gains of a zone's class. -/
def Cfg.gains (c : Cfg) (z : ZoneId) : Gains :=
  match z.grp with
  | .upper => c.upperGains | .bayA => c.mouldGains | .bayB => c.mouldGains

/-! ### Budget arbitration -/

/-- A zone in a class's share of the budget: its rating and the duty it asks for or is granted. -/
structure Load where
  zone : ZoneId
  rating : Nat
  duty : Nat
deriving DecidableEq, Repr

/-- R55: the power of a duty, in watts. -/
def watts (duty rating : Nat) : Nat := duty * rating / 1000

def Load.watts (l : Load) : Nat := Sys2Proof.Machine.watts l.duty l.rating

def totalWatts (ls : List Load) : Nat := (ls.map Load.watts).sum

/-- R55: whether a zone is in class 1 at a position. -/
def inClass1 (x : Position) (z : ZoneId) : Bool :=
  match z.grp with
  | .upper => true
  | .bayA => x.inBay == some .a
  | .bayB => x.inBay == some .b

/-- The zones of a class in descending number, each with its rating and requested duty. -/
def classLoads (zs : Zones Zone) (ratings : Zones Nat) (x : Position) (class1 : Bool) : List Load :=
  (ZoneId.all.reverse.filter fun z => inClass1 x z == class1).map fun z =>
    ⟨z, ratings.get z, (zs.get z).requested⟩

/-- R56, R57: the duties scaled by share / sum. -/
def scaleLoads (share sum : Nat) (ls : List Load) : List Load :=
  ls.map fun l => { l with duty := l.duty * share / sum }

/-- R58: one pass of the trim over a class from its highest zone to its lowest; `total` is the
class's power as the pass finds it. -/
def trimPass (share : Nat) : Nat → List Load → List Load
  | _, [] => []
  | total, l :: ls =>
    if total ≤ share then l :: ls
    else if l.duty = 0 then l :: trimPass share total ls
    else
      let l' := { l with duty := l.duty - 1 }
      l' :: trimPass share (total - (l.watts - l'.watts)) ls

/-- R58: passes until the class's power is at or below the share. Each pass above it lowers a duty,
so as many passes as the duties sum to always suffice. -/
def trim (share : Nat) : Nat → List Load → List Load
  | 0, ls => ls
  | k + 1, ls => if totalWatts ls ≤ share then ls else trim share k (trimPass share (totalWatts ls) ls)

/-- R58: the trim of a scaled class. -/
def trimLoads (share : Nat) (ls : List Load) : List Load := trim share (ls.map Load.duty).sum ls

/-- R56, R57: a class granted its requests when they fit its share, and else scaled and trimmed. -/
def grantClass (share : Nat) (ls : List Load) : List Load :=
  if totalWatts ls ≤ share then ls else trimLoads share (scaleLoads share (totalWatts ls) ls)

/-- R57: a class granted nothing. -/
def starve (ls : List Load) : List Load := ls.map fun l => { l with duty := 0 }

/-- R56, R57, R60: the loads of both classes as granted. -/
def arbitrate (budget : Nat) (warning : Bool) (c1 c2 : List Load) : List Load :=
  if warning then starve c1 ++ starve c2
  else if totalWatts c1 ≤ budget then c1 ++ grantClass (budget - totalWatts c1) c2
  else grantClass budget c1 ++ starve c2

/-- The duty a list of loads grants a zone. -/
def dutyOf (ls : List Load) (z : ZoneId) : Nat :=
  match ls.find? fun l => l.zone == z with
  | some l => l.duty
  | none => 0

/-! ### The stages over the block -/

/-- R48 to R50: take-up of all twelve zones, with its notices and the fresh flags cleared. -/
def State.takeUpStage (s : State) : State :=
  let s1 := s.takeUpNotices s ZoneId.all
  { s1 with heat.zones := Zones.ofFn fun z =>
      ((s.heat.zones.get z).takeUp (validValue (s.freshSample z))).1 }.clearFresh ZoneId.all

/-- R50: the zones that recovered at the take-up of a state. -/
def State.recoveredIn (s : State) (z : ZoneId) : Bool :=
  ((s.heat.zones.get z).takeUp (validValue (s.freshSample z))).2

/-- R51, R63: the ramp stage of all zones, then the at-temperature flags judged again; `before` is
the state the take-up of this period found. -/
def State.rampStageAll (s before : State) : State :=
  { s with heat.zones := Zones.ofFn fun z =>
      let x := (s.heat.zones.get z).rampStage s.cfg.rampLimit (before.recoveredIn z)
      { x with atTemp := x.isAtTemp (s.zoneRecipe z) } }

/-- R52 to R54: the PI stage of all zones. -/
def State.piStageAll (s : State) : State :=
  { s with heat.zones := Zones.ofFn fun z =>
      (s.heat.zones.get z).piStage (s.cfg.gains z) s.cfg.cutback (s.supply == .warning) }

/-- R55 to R61: arbitration and reload: the granted duties, the budget-limited flags, the sums that
READ ZONE reports, and the heater lines switched on for the following period. -/
def State.arbitrateAll (s : State) : State :=
  let c1 := classLoads s.heat.zones s.cfg.ratings s.permit.position true
  let c2 := classLoads s.heat.zones s.cfg.ratings s.permit.position false
  let warning := s.supply == .warning
  let ls := arbitrate s.cfg.budget warning c1 c2
  { s with
    heat.zones := Zones.ofFn fun z =>
      let x := s.heat.zones.get z
      { x with granted := dutyOf ls z, limited := !warning && decide (dutyOf ls z < x.requested) }
    heat.lines := Zones.ofFn fun z => dutyOf ls z != 0
    heat.sum1 := totalWatts c1
    heat.sum2 := totalWatts c2
    heat.totalGranted := totalWatts ls }

/-- R59: a budget-limited class 1 zone adds POWER_LIMITED to the CLOSED shot under the press. -/
def State.notePowerLimited (s : State) : State :=
  match s.permit.position.inBay with
  | none => s
  | some y =>
    if s.shotStage y = some .closed ∧
        (ZoneId.all.any fun z => inClass1 s.permit.position z && (s.heat.zones.get z).limited) = true
    then s.addExc y .powerLimited
    else s

end Sys2Proof.Machine
end

