-- ==== Sys2Proof/Machine/HeatRequests.lean ====
section
/-!
DEFINITION. The heat block's requests (spec file 03): HEAT MODE, PARK, ZONE ENABLE and ZONE DISABLE;
and its own events: the heat period with its five stages and its hand-offs, the idle timer's expiry
and the switching off of a heater line.
-/

namespace Sys2Proof.Machine

open Sys2Proof

/-! ### Requests -/

/-- R65, R69: a pending park cancelled by HEAT MODE. -/
def State.cancelPark (s : State) : State :=
  if s.heat.parkPending then (s.setPark false).postRole .line { code := .parkCancelled } else s

/-- R65: what the reply to HEAT MODE carries. -/
def heatReply (s : State) : Reply :=
  Reply.of .ok [.nat s.heat.mode.code, .flag s.heat.parkPending]

/-- R65 -/
def heatModeAct (code : Byte) (s : State) : State × Reply :=
  match heatModeOf code with
  | none => (s, heatReply s)
  | some m => (s.cancelPark.setMode m, heatReply (s.cancelPark.setMode m))

def execHeatMode (p : PortId) (code : Byte) (s : State) : Host.Outcome State Fault Refusal :=
  .next (s.serve p (.heatMode p code) (heatModeAct code))

/-- R68 -/
def parkAct (s : State) : State × Reply :=
  if s.heat.parkPending then (s, Reply.of .pending)
  else if s.openShots = 0 then
    ((s.setMode .off).postRole .line { code := .parked }, Reply.of .ok)
  else (s.setPark true, Reply.of .pending)

def execPark (p : PortId) (s : State) : Host.Outcome State Fault Refusal :=
  .next (s.serve p (.park p) parkAct)

/-- R70: the enabled flag of the zones named set to a value; a zone it moves goes OFF or leaves OFF
at once (R43). -/
def State.enableZones (s : State) (zs : List ZoneId) (v : Bool) : State :=
  { s with heat.zones := Zones.ofFn fun z =>
      let x := s.heat.zones.get z
      if z ∈ zs then { x with enabled := v } else x }.rederiveZones

/-- R70: the enabled flags of all twelve zones. -/
def enabledReply (s : State) : Reply :=
  Reply.of .ok (ZoneId.all.map fun z => .flag (s.heat.zones.get z).enabled)

/-- R70 -/
def zoneAct (zone : Byte) (v : Bool) (s : State) : State × Reply :=
  (s.enableZones (zonesOf zone) v, enabledReply (s.enableZones (zonesOf zone) v))

def execZoneEnable (p : PortId) (zone : Byte) (s : State) : Host.Outcome State Fault Refusal :=
  .next (s.serve p (.zoneEnable p zone) (zoneAct zone true))

def execZoneDisable (p : PortId) (zone : Byte) (s : State) : Host.Outcome State Fault Refusal :=
  .next (s.serve p (.zoneDisable p zone) (zoneAct zone false))

/-! ### Events -/

/-- R66, R67: the heat periods at which the idle timer has run out. -/
def State.idleTop (s : State) : Nat := 60 * s.cfg.idleLimit

/-- R66: the idle timer rises at the end of a period in which it runs. At its top it waits for
IDLE_TIMER_EXPIRY, the event it has then reached (notes/assumptions/16). -/
def State.idleTick (s : State) : State :=
  if s.idleRuns then { s with heat.idleTimer := min (s.heat.idleTimer + 1) s.idleTop } else s

/-- R47: the five stages: take-up, ramp, PI, arbitration and reload. -/
def State.heatStages (s : State) : State :=
  (((s.takeUpStage.rampStageAll s).piStageAll).arbitrateAll).notePowerLimited

/-- R62: the hand-offs that end a period: the cure step for each bay, the flags for the permit. -/
def State.handOff (s before : State) : State :=
  ((s.cureStep .a).cureStep .b).handFlags before.heat.zones

/-- R47, R62, R66: one heat period. -/
def State.heatPeriod (s : State) : State := (s.heatStages.handOff s).idleTick

def execHeatPeriod (s : State) : Host.Outcome State Fault Refusal :=
  .next (s.event State.heatPeriod)

/-- R67: the idle timer at its top: the timer stops at 0 and the mode becomes SETBACK_AUTO. -/
def State.idleExpires (s : State) : State :=
  if s.idleRuns && decide (s.idleTop ≤ s.heat.idleTimer) then
    { s with heat.idleTimer := 0 }.setMode .setbackAuto
  else s

def execIdleTimerExpiry (s : State) : Host.Outcome State Fault Refusal :=
  .next (s.event State.idleExpires)

/-- R61: a line that was switched on at the reload goes off once its granted duty has elapsed; a
duty of 1000 keeps it on for the whole period. -/
def State.switchOff (s : State) (z : ZoneId) : State :=
  if (s.heat.zones.get z).granted < 1000 then { s with heat.lines := s.heat.lines.set z false } else s

def execHeaterSwitchOff (z : ZoneId) (s : State) : Host.Outcome State Fault Refusal :=
  .next (s.event fun s => s.switchOff z)

end Sys2Proof.Machine
end

