-- ==== Sys2Proof/Machine/Reads.lean ====
section
/-!
DEFINITION. The requests that change no state: READ SHOT, READ BAY, READ ZONE, READ CELL, RECIPE
READ, HISTORY FIND and READ NODE, and the pages of a history record (R156).
-/

namespace Sys2Proof.Machine

open Sys2Proof

def Stage.field (o : Option Stage) : Field :=
  match o with
  | some st => .nat st.code | none => .nat 0

/-! ### READ SHOT (R24) -/

def Shot.summary (sh : Shot) : List Field :=
  ([.nat sh.serial, .nat sh.stage.code, .nat sh.recipeSlot.toNat, .nat sh.recipeNumber,
   .nat sh.recipeRevision, .nat sh.mouldId, .nat sh.pieces.length, .num sh.chargeTotal,
   .nat sh.discards, .nat sh.dose, .nat sh.closedDuration, .optInt sh.minCureTemp,
   .optInt sh.maxZoneTemp, .optNat sh.pressPeak, .optNat sh.demouldPeak] : List Field)
    ++ (sh.exceptions.map fun e => .nat e.number)
    ++ ([.nat (verdictOf sh.exceptions).code] : List Field)

/-- R24, R156: the six timestamps in stage order. -/
def Shot.stampFields (sh : Shot) : List Field :=
  sh.openedAt.fields ++ Sys2Proof.Machine.stampFields sh.chargedAt
    ++ Sys2Proof.Machine.stampFields sh.closedAt ++ Sys2Proof.Machine.stampFields sh.curedAt
    ++ Sys2Proof.Machine.stampFields sh.pressOpenedAt ++ Sys2Proof.Machine.stampFields sh.ejectedAt

def Shot.part (sh : Shot) (n : Nat) : List Field :=
  match n with
  | 0 => sh.summary
  | 1 => sh.pieces.flatMap Piece.fields
  | _ => sh.stampFields

/-- R24: a part above 2 of an empty slot is INVALID, and not OK, by the model's choice
(notes/assumptions/27). -/
def readShotReply (s : State) (bay part : Byte) : Reply :=
  match bayOf bay with
  | none => Reply.of .invalid
  | some y =>
    if 2 < part.toNat then Reply.of .invalid
    else
      match s.slots.get y with
      | none => Reply.of .ok [.nat 0]
      | some sh => Reply.of .ok (sh.part part.toNat)

def execReadShot (p : PortId) (bay part : Byte) (s : State) : Host.Outcome State Fault Refusal :=
  .next (s.serve p (.readShot p bay part) fun s => (s, readShotReply s bay part))

/-! ### READ BAY (R39) -/

/-- R39: for a bound bay, the recipe's number and revision, its lower interval and whether it is due. -/
def State.boundFields (s : State) (y : Bay) : List Field :=
  match s.bayRecipe y, (s.bays.get y).recipeSlot with
  | some r, some i =>
    [.nat r.number, .nat (s.recipes.get i).revision, .nat r.lowerInterval, .flag (s.lowerDue y)]
  | _, _ => []

/-- R5, R39: a bay's place at the present position. -/
def State.placeOf (s : State) (y : Bay) : Place :=
  if s.permit.position.inBay = some y then .isIn
  else if s.permit.position.outBay = some y then .isOut
  else .neither

def readBayReply (s : State) (bay : Byte) : Reply :=
  match bayOf bay with
  | none => Reply.of .invalid
  | some y =>
    Reply.of .ok
      ((s.bays.get y).fields ++ s.boundFields y ++ [.place (s.placeOf y)]
        ++ [.nat s.upperCount, .optNat (s.pressRecipe.map (·.upperInterval)), .flag s.upperDue]
        ++ [Stage.field (s.shotStage y)])

def execReadBay (p : PortId) (bay : Byte) (s : State) : Host.Outcome State Fault Refusal :=
  .next (s.serve p (.readBay p bay) fun s => (s, readBayReply s bay))

/-! ### READ ZONE (R71) -/

def zoneFields (s : State) (z : ZoneId) : List Field :=
  let x := s.heat.zones.get z
  [.zoneState x.state, .flag x.enabled, .zoneUpper (z.grp == .upper), .nat (s.cfg.ratings.get z),
   .optBay (s.zoneSource z), .optInt x.target, .optInt x.effective, .nat x.rampAcc,
   .optInt x.latest, .flag x.validNow, .nat x.invalidCount, .nat x.validCount, .num x.integrator,
   .nat x.requested, .nat x.granted, .flag x.limited, .flag x.atTemp,
   .budgetClass (inClass1 s.permit.position z)]

/-- The number of zones in a state. -/
def zonesIn (s : State) (st : ZoneState) : Nat :=
  (ZoneId.all.filter fun z => (s.heat.zones.get z).state == st).length

def heatSummary (s : State) : List Field :=
  ([.nat s.heat.mode.code, .flag s.heat.parkPending, .nat s.heat.idleTimer, .flag s.idleRuns,
   .nat s.cfg.budget, .nat s.heat.sum1, .nat s.heat.sum2, .nat s.heat.totalGranted,
   .nat (zonesIn s .off), .nat (zonesIn s .idle), .nat (zonesIn s .ramp),
   .nat (zonesIn s .regulate), .nat (zonesIn s .fault)] : List Field)
    ++ ZoneId.all.map fun z => .flag (s.heat.zones.get z).atTemp

def readZoneReply (s : State) (zone : Byte) : Reply :=
  match ZoneId.ofNat? zone.toNat with
  | some z => Reply.of .ok (zoneFields s z)
  | none => Reply.of .ok (heatSummary s)

def execReadZone (p : PortId) (zone : Byte) (s : State) : Host.Outcome State Fault Refusal :=
  .next (s.serve p (.readZone p zone) fun s => (s, readZoneReply s zone))

/-! ### READ CELL (R131) -/

def Hold.fields (h : Hold) : List Field := [.holder h.holder, .scope h.scope, .nat h.reason]

def areaFields (s : State) (r : Area) : List Field :=
  [.area (s.permit.areas.get r).holder, .area (s.permit.areas.get r).waiter, .flag (s.enterable r)]

def readCellReply (s : State) : Reply :=
  Reply.of .ok
    ([.nat s.permit.press.code, .nat s.permit.position.code, .optBay s.permit.closeGrant,
      .optBay s.permit.shuttleGrant, .flag s.closeOk, .flag s.shuttleOk, .flag s.ejectOk,
      .nat s.heat.mode.code, .flag s.heat.parkPending,
      Stage.field (s.shotStage .a), Stage.field (s.shotStage .b),
      .optBay s.permit.position.inBay, .optBay s.permit.position.outBay, .flag s.upperDue,
      .nat s.holds.length]
      ++ s.holds.flatMap Hold.fields ++ areaFields s .press ++ areaFields s .load)

def execReadCell (p : PortId) (s : State) : Host.Outcome State Fault Refusal :=
  .next (s.serve p (.readCell p) fun s => (s, readCellReply s))

/-! ### RECIPE READ (R30) -/

/-- R30: the state (VALID or EMPTY) as a flag, the revision counter, and for a VALID slot the
fields, the in-use count and each bay's binding to the slot. -/
def recipeReadReply (s : State) (slot : Byte) : Reply :=
  match slotOf slot with
  | none => Reply.of .invalid
  | some i =>
    let x := s.recipes.get i
    match x.recipe with
    | none => Reply.of .ok [.flag false, .nat x.revision]
    | some r =>
      Reply.of .ok
        ([.flag true, .nat x.revision] ++ r.fields ++
          [.nat x.inUse, .flag (s.bound .a && (s.bays.get .a).recipeSlot == some i),
           .flag (s.bound .b && (s.bays.get .b).recipeSlot == some i)])

def execRecipeRead (p : PortId) (slot : Byte) (s : State) : Host.Outcome State Fault Refusal :=
  .next (s.serve p (.recipeRead p slot) fun s => (s, recipeReadReply s slot))

/-! ### Record pages (R156) and HISTORY FIND (R155) -/

/-- R148: the disposition as a code, 0 when absent, with its time. -/
def Record.dispositionFields (r : Record) : List Field :=
  (match r.disposition with
   | some d => [.nat d.code]
   | none => [.nat 0]) ++ stampFields r.dispositionAt

def Record.page0 (r : Record) (slot : Nat) : List Field :=
  ([.nat r.shot.serial, .nat r.filingNo, .nat slot, .bay r.shot.bay, .nat r.shot.mouldId,
   .nat r.shot.recipeSlot.toNat, .nat r.shot.recipeNumber, .nat r.shot.recipeRevision,
   .nat r.outcome.code, .nat r.shot.stage.code, .nat r.verdict.code] : List Field)
    ++ r.dispositionFields ++ ([.nat (if r.exported then 1 else 0), .flag r.amended] : List Field)
    ++ r.shot.exceptions.map fun e => .nat e.number

/-- R156: the page asked of a record in a slot. -/
def Record.page (r : Record) (slot page : Nat) : List Field :=
  match page with
  | 0 => r.page0 slot
  | 1 => r.shot.stampFields
  | 2 => [.nat r.shot.pieces.length, .num r.shot.chargeTotal, .nat r.shot.discards]
          ++ (r.shot.pieces.take 4).flatMap Piece.fields
  | 3 => (r.shot.pieces.drop 4).flatMap Piece.fields
  | _ => [.nat r.shot.dose, .nat r.shot.closedDuration, .optInt r.shot.minCureTemp,
          .optInt r.shot.maxZoneTemp, .optNat r.shot.pressPeak, .optNat r.shot.demouldPeak]

/-- R155: a page above 4 with a serial that no record carries is INVALID, and not NOT_FOUND, by the
model's choice (notes/assumptions/27). -/
def historyFindReply (s : State) (serial : BitVec 32) (page : Byte) : Reply :=
  if 4 < page.toNat then Reply.of .invalid
  else
    match s.history.find serial.toNat with
    | none => Reply.of .notFound
    | some (i, r) => Reply.of .ok (.nat r.filingNo :: r.page i page.toNat)

def execHistoryFind (p : PortId) (serial : BitVec 32) (page : Byte) (s : State) :
    Host.Outcome State Fault Refusal :=
  .next (s.serve p (.historyFind p serial page) fun s => (s, historyFindReply s serial page))

/-! ### READ NODE (R172) -/

def TempChannel.fields (c : TempChannel) : List Field :=
  (match c.latest with
   | some x => [.num x.value, .tempStatus x.status]
   | none => [.absent, .absent]) ++ [.flag c.fresh]

def readNodeReply (s : State) (address : Byte) : Reply :=
  match nodeOf address with
  | none => Reply.of .invalid
  | some n =>
    let x := s.sensor.nodes.get n
    let k := s.cfg.nodeKinds.get n
    Reply.of .ok
      ([.nodeKind k, .nat x.state.code, .nat x.misses,
        (match x.lastMiss with | some r => .nat r.code | none => .absent)]
        ++ (if k = .temp then x.channels.toList.flatMap TempChannel.fields else []))

def execReadNode (p : PortId) (address : Byte) (s : State) : Host.Outcome State Fault Refusal :=
  .next (s.serve p (.readNode p address) fun s => (s, readNodeReply s address))

end Sys2Proof.Machine
end

