-- ==== Sys2Proof/Machine/HistoryRequests.lean ====
section
/-!
DEFINITION. LINE's requests on the history store (spec file 08): HISTORY NEXT, HISTORY ACK and
DISPOSITION SET. HISTORY FIND stands in Machine/Reads.lean.
-/

namespace Sys2Proof.Machine

open Sys2Proof

/-- R153: a page above 4 while there is no export head is INVALID, and not EMPTY, by the model's choice
(notes/assumptions/27). -/
def historyNextReply (s : State) (page : Byte) : Reply :=
  if 4 < page.toNat then Reply.of .invalid
  else
    match s.history.head with
    | none => Reply.of .empty [.nat s.history.pending]
    | some (i, r) =>
      Reply.of .ok
        ([.nat r.shot.serial, .nat r.filingNo, .nat s.history.pending] ++ r.page i page.toNat)

def execHistoryNext (p : PortId) (page : Byte) (s : State) : Host.Outcome State Fault Refusal :=
  .next (s.serve p (.historyNext p page) fun s => (s, historyNextReply s page))

/-- R154: the record acknowledged becomes Taken. -/
def Record.taken (r : Record) : Record := { r with exported := true, amended := false }

/-- R154, R160: the head acknowledged. -/
def State.ackHead (s : State) (i : Nat) (r : Record) : State :=
  { s with history := { s.history.put i r.taken with pending := s.history.pending - 1 } }.judgeNearFull

/-- R154: the serial of the head, or none. -/
def State.headSerial (s : State) : Option Nat := s.history.head.map fun x => x.2.shot.serial

/-- R154 -/
def historyAckAct (serial : BitVec 32) (s : State) : State × Reply :=
  match s.history.head with
  | none => (s, Reply.of .empty)
  | some (i, r) =>
    if r.shot.serial ≠ serial.toNat then (s, Reply.of .mismatch [.nat r.shot.serial])
    else
      (s.ackHead i r,
        Reply.of .ok
          [.nat r.shot.serial, Field.optNat (s.ackHead i r).headSerial,
           .nat (s.ackHead i r).history.pending])

def execHistoryAck (p : PortId) (serial : BitVec 32) (s : State) :
    Host.Outcome State Fault Refusal :=
  .next (s.serve p (.historyAck p serial) (historyAckAct serial))

/-- R157, steps 1 to 4: the record with its disposition; a Taken record becomes Re-queued. -/
def Record.disposed (r : Record) (d : Disposition) (t : Timestamp) : Record :=
  { r with disposition := some d, dispositionAt := some t, amended := r.amended || r.exported }

/-- R157, R160: the effects of an accepted DISPOSITION SET. -/
def State.dispose (s : State) (i : Nat) (r : Record) (d : Disposition) : State :=
  let h := s.history.put i (r.disposed d s.stamp)
  if r.isTaken then { s with history := { h with pending := s.history.pending + 1 } }.judgeNearFull
  else { s with history := h }

/-- R157 -/
def dispositionSetAct (serial : BitVec 32) (disposition : Byte) (s : State) : State × Reply :=
  match dispositionOf disposition with
  | none => (s, Reply.of .invalid)
  | some d =>
    match s.history.find serial.toNat with
    | none => (s, Reply.of .notFound)
    | some (i, r) =>
      if r.verdict ≠ .hold then (s, Reply.of .invalid)
      else if r.disposition.isSome then (s, Reply.of .alreadySet)
      else if r.isTaken ∧ storeSize ≤ s.history.pending + s.openShots then
        (s, Reply.of .historyFull)
      else
        let r' := r.disposed d s.stamp
        (s.dispose i r d,
          Reply.of .ok
            ([.nat r.shot.serial, .nat d.code] ++ s.stamp.fields
              ++ [.nat (if r'.exported then 1 else 0), .flag r'.amended,
                  .nat (s.dispose i r d).history.pending]))

def execDispositionSet (p : PortId) (serial : BitVec 32) (disposition : Byte) (s : State) :
    Host.Outcome State Fault Refusal :=
  .next (s.serve p (.dispositionSet p serial disposition) (dispositionSetAct serial disposition))

end Sys2Proof.Machine
end

