-- ==== Sys2Proof/Machine/Link.lean ====
section
/-!
DEFINITION. The events of the sensor link (spec file 09): a round's beginning, a reply, a reply
window that closes; and the two timers of the weigh and demould blocks (R96, R101, R143).
-/

namespace Sys2Proof.Machine

open Sys2Proof

/-- R166: a round begins with the poll of the lowest configured node, once the one before has ended. -/
def State.beginRound (s : State) : State :=
  if s.sensor.polling.isNone then { s with sensor.polling := firstNode s.cfg.nodeKinds } else s

def execRoundBegin (s : State) : Host.Outcome State Fault Refusal :=
  .next (s.event State.beginRound)

/-- R167, R168: a complete reply within the window of the poll in progress; bytes received while no
window is open are discarded. -/
def State.takeReply (s : State) (r : NodeReply) : State :=
  match s.sensor.polling with
  | none => s
  | some n =>
    (match s.replyMiss n r with
     | some m => s.nodeMiss n m
     | none => s.nodeGood n r.data).nextPoll n

def execPollReply (r : NodeReply) (s : State) : Host.Outcome State Fault Refusal :=
  .next (s.event fun s => s.takeReply r)

/-- R167: the window closed without a complete reply. -/
def State.missReply (s : State) : State :=
  match s.sensor.polling with
  | none => s
  | some n => (s.nodeMiss n .timeout).nextPoll n

def execReplyTimeout (s : State) : Host.Outcome State Fault Refusal :=
  .next (s.event State.missReply)

/-- R96, R101: a running weigh timer expires. -/
def State.weighExpires (s : State) : State :=
  if s.weigh.timer.isNone then s
  else
    match s.weigh.slot with
    | .none => s
    | .weigh y => s.endWeigh y .weighUnstable s.channels.w.arrivals s.spreadW
    | .tare r => s.endTare r .tareFailed 1 0

def execWeighTimerExpiry (s : State) : Host.Outcome State Fault Refusal :=
  .next (s.event State.weighExpires)

/-- R143: the alarm of an ejection timer's expiry, from the record as it stands at expiry. -/
def State.timeoutAlarm (s : State) (y : Bay) : State :=
  s.postAll
    { code := .ejectTimeout, bay := some y, serial := s.eject.serial, v1 := s.eject.peak,
      v2 := s.eject.state.code }

/-- R143: a running ejection timer expires. -/
def State.ejectExpires (s : State) : State :=
  match s.eject.timer, s.eject.bay with
  | some _, some y => if s.ejecting y then (s.timeoutAlarm y).closeEject y true else s
  | _, _ => s

def execEjectionTimerExpiry (s : State) : Host.Outcome State Fault Refusal :=
  .next (s.event State.ejectExpires)

end Sys2Proof.Machine
end

