-- ==== Sys2Proof/Machine/Permits.lean ====
section
/-!
DEFINITION. The requests of the permit block (spec file 06): the hold set, the press reports, the
close and shuttle permits, and the work areas. READ CELL stands in Machine/Reads.lean.
-/

namespace Sys2Proof.Machine

open Sys2Proof

/-! ### The hold set (R123, R124) -/

/-- R123: a reason a station may give, 1 to 15. -/
def stationReason (b : Byte) : Bool := decide (1 ≤ b.toNat) && decide (b.toNat ≤ 15)

/-- R123: an entry added to the station entries, with its notice and the withdrawals it brings. -/
def State.addHold (s : State) (h : Hold) : State :=
  ({ s with permit.stationHolds := s.permit.stationHolds ++ [h] }.holdChanged true [h]).blockGrants
    h.scope

/-- R123 -/
def holdAddAct (p : PortId) (scope reason : Byte) (s : State) : State × Reply :=
  match scopeOf scope with
  | none => (s, Reply.of .invalid)
  | some sc =>
    if !stationReason reason then (s, Reply.of .invalid)
    else
      let h : Hold := ⟨.station (s.roleOf p), sc, reason.toNat⟩
      if h ∈ s.permit.stationHolds then (s, Reply.of .ok [.nat s.holds.length])
      else if 12 ≤ s.permit.stationHolds.length then (s, Reply.of .full)
      else (s.addHold h, Reply.of .ok [.nat (s.addHold h).holds.length])

def execHoldAdd (p : PortId) (scope reason : Byte) (s : State) : Host.Outcome State Fault Refusal :=
  .next (s.serve p (.holdAdd p scope reason) (holdAddAct p scope reason))

/-- The entries of the station list that a test picks removed, with HOLD_CHANGED when there are any. -/
def State.removeHolds (s : State) (f : Hold → Bool) : State :=
  let gone := s.permit.stationHolds.filter f
  let s1 := { s with permit.stationHolds := s.permit.stationHolds.filter fun h => !f h }
  if gone.isEmpty then s1 else s1.holdChanged false gone

/-- R124: the scopes a HOLD REMOVE names: ALL 00h, or one. -/
def removeScope (b : Byte) : Option (Option Scope) :=
  if b = 0#8 then some none else (scopeOf b).map some

/-- R124: whether an entry is one of a role's own that match. -/
def Hold.isMatch (h : Hold) (r : Role) (sc : Option Scope) (reason : Nat) : Bool :=
  h.holder == .station r && (sc.isNone || sc == some h.scope) && (reason == 0 || h.reason == reason)

/-- R124 -/
def holdRemoveAct (p : PortId) (scope reason : Byte) (s : State) : State × Reply :=
  match removeScope scope with
  | none => (s, Reply.of .invalid)
  | some sc =>
    if 15 < reason.toNat then (s, Reply.of .invalid)
    else
      let f := fun h : Hold => h.isMatch (s.roleOf p) sc reason.toNat
      (s.removeHolds f, Reply.of .ok [.nat (s.permit.stationHolds.filter f).length])

def execHoldRemove (p : PortId) (scope reason : Byte) (s : State) :
    Host.Outcome State Fault Refusal :=
  .next (s.serve p (.holdRemove p scope reason) (holdRemoveAct p scope reason))

/-- R124: HOLD CLEAR: every station entry, of every holder. -/
def holdClearAct (s : State) : State × Reply :=
  (s.removeHolds fun _ => true, Reply.of .ok [.nat s.permit.stationHolds.length])

def execHoldClear (p : PortId) (s : State) : Host.Outcome State Fault Refusal :=
  .next (s.serve p (.holdClear p) holdClearAct)

/-! ### Press reports (R109 to R112) -/

/-- R110: the bay of the shot a CLOSED report closes: the one under the press, if CHARGED. -/
def State.closingBay (s : State) : Option Bay :=
  match s.permit.position.inBay with
  | some y => if s.shotStage y = some .charged then some y else none
  | none => none

/-- R110: the closing rule. -/
def State.closeShot (s : State) : State :=
  match s.closingBay with
  | none => s
  | some y =>
    (if s.permit.closeGrant.isSome then { s with permit.closeGrant := none }
     else (s.addExc y .closedUnpermitted).postAll
       { code := .unpermittedClose, bay := some y, serial := serialOf s y }).advance y .closed

/-- R111: a force carried by a report, on a pressed shot with the minimum of its recipe. -/
def Shot.applyForce (sh : Shot) (minimum force : Nat) : Shot :=
  let peak := match sh.pressPeak with
    | none => force
    | some f => max f force
  { sh with
    pressPeak := some peak
    exceptions := if peak < minimum then insertExc .forceLow sh.exceptions else sh.exceptions }

/-- R111: the force rule for a bay's shot, if it is in CLOSED or CURED. -/
def State.pressForce (s : State) (force : Nat) (y : Bay) : State :=
  match s.slots.get y with
  | none => s
  | some sh =>
    if sh.stage = .closed ∨ sh.stage = .cured then
      s.setSlot y (some (sh.applyForce ((s.shotRecipe sh).elim 0 (·.minPressForce)) force))
    else s

/-- R112: the opening rule for a bay's shot. -/
def State.openShot (s : State) (y : Bay) : State :=
  match s.shotStage y with
  | some .closed => (s.addExc y .earlyOpen).advance y .opened
  | some .cured => s.advance y .opened
  | some .charging => s
  | some .charged => s
  | some .opened => s
  | some .ejected => s
  | none => s

/-- R109, steps 1 to 7. Steps 5 and 6 reach the shots of both bays in no order the rules give: that
bay A comes first, with its notice, is the model's choice (notes/assumptions/18). -/
def State.reportPress (s : State) (x : PressState) (force : Option Nat) : State :=
  let s1 := s.setPress x
  let s2 := if s.permit.press = .open ∧ x ≠ .open then s1.withdrawShuttle 3 else s1
  let s3 := if x = .opening then s2.withdrawClose 6 else s2
  let s4 := if x = .closed then s3.closeShot else s3
  let s5 := match force with
    | some f => (s4.pressForce f .a).pressForce f .b
    | none => s4
  let s6 := if x = .open then (s5.openShot .a).openShot .b else s5
  s6.promoteBoth

/-- R109: the bay, serial and new stage of a shot whose stage a report changed. -/
def stageChange (old new : State) (y : Bay) : List Field :=
  match new.slots.get y with
  | none => []
  | some sh =>
    if old.shotStage y = some sh.stage then [] else [.bay y, .nat sh.serial, .nat sh.stage.code]

/-- R109 -/
def reportPressAct (state : Byte) (force : Option (BitVec 16)) (s : State) : State × Reply :=
  match pressOf state with
  | none => (s, Reply.of .invalid)
  | some x =>
    let t := s.reportPress x (force.map BitVec.toNat)
    (t, Reply.of .ok (.nat t.permit.press.code :: (stageChange s t .a ++ stageChange s t .b)))

def execReportPress (p : PortId) (state : Byte) (force : Option (BitVec 16)) (s : State) :
    Host.Outcome State Fault Refusal :=
  .next (s.serve p (.reportPress p state force) (reportPressAct state force))

/-! ### The close permit (R117, R118) -/

/-- R117: the curing zones of a bay that are not at temperature. That they, and so the zone numbers of
a NOT_AT_TEMP reply, come in ascending number is the model's choice (notes/assumptions/19). -/
def State.coldZones (s : State) (y : Bay) : List ZoneId :=
  (curingZones y).filter fun z => !(s.heat.zones.get z).atTemp

/-- R117: the first check a CLOSE REQUEST fails, or the bay and the serial it is granted for. -/
def State.judgeClose (s : State) : Except Reply (Bay × Nat) :=
  if s.permit.shuttleGrant.isSome then .error (Reply.of .grantActive)
  else
    match s.permit.position.inBay with
    | none => .error (Reply.of .positionUnknown)
    | some y =>
      if s.permit.press ≠ .open then .error (Reply.of .pressNotOpen)
      else
        match s.slots.get y with
        | none => .error (Reply.of .notCharged)
        | some sh =>
          if sh.stage ≠ .charged then .error (Reply.of .notCharged)
          else
            match s.blockingHold y with
            | some h => .error (Reply.of .holdActive [.holder h.holder, .scope h.scope, .nat h.reason])
            | none =>
              if (s.permit.areas.get .press).holder.isSome then .error (Reply.of .areaOccupied)
              else if s.upperDue then .error (Reply.of .releaseDue)
              else if s.heat.mode ≠ .run then .error (Reply.of .heatMode)
              else if s.coldZones y ≠ [] then
                .error (Reply.of .notAtTemp ((s.coldZones y).map fun z => .nat z.number))
              else .ok (y, sh.serial)

/-- R117, R118 -/
def closeRequestAct (s : State) : State × Reply :=
  match s.permit.closeGrant with
  | some y => (s, Reply.of .granted [.bay y])
  | none =>
    match s.judgeClose with
    | .error r => (s, r)
    | .ok (y, n) => ({ s with permit.closeGrant := some y }, Reply.of .granted [.bay y, .nat n])

def execCloseRequest (p : PortId) (s : State) : Host.Outcome State Fault Refusal :=
  .next (s.serve p (.closeRequest p) closeRequestAct)

/-! ### The shuttle (R113, R114) -/

/-- R113: the result of the first check a SHUTTLE REQUEST fails. -/
def State.judgeShuttle (s : State) (y : Bay) : Option ResultCode :=
  if s.permit.position = Position.ofIn y then some .samePosition
  else if s.permit.press ≠ .open then some .pressNotOpen
  else if s.permit.closeGrant.isSome || s.permit.shuttleGrant.isSome then some .grantActive
  else if s.cellHeld then some .holdActive
  else if (s.permit.areas.get .press).holder.isSome || (s.permit.areas.get .load).holder.isSome then
    some .areaOccupied
  else if s.shotStage .a = some .charging ∨ s.shotStage .b = some .charging then some .chargeOpen
  else none

/-- R113: a request for a valid target, the wake rule applied. -/
def State.requestShuttle (s : State) (y : Bay) : State × Reply :=
  match s.judgeShuttle y with
  | some c => (s, Reply.of c)
  | none => ({ s with permit.shuttleGrant := some y }.setPosition .moving, Reply.of .granted)

/-- R113 -/
def shuttleRequestAct (target : Byte) (s : State) : State × Reply :=
  match bayOf target with
  | none => (s, Reply.of .invalid)
  | some y => s.wake.requestShuttle y

def execShuttleRequest (p : PortId) (target : Byte) (s : State) :
    Host.Outcome State Fault Refusal :=
  .next (s.serve p (.shuttleRequest p target) (shuttleRequestAct target))

/-- R114: a value that is neither A_IN nor B_IN under a close grant is INVALID, and not GRANT_ACTIVE, by
the model's choice (notes/assumptions/27). -/
def shuttleDoneAct (position : Byte) (s : State) : State × Reply :=
  match bayOf position with
  | none => (s, Reply.of .invalid)
  | some y =>
    if s.permit.closeGrant.isSome then (s, Reply.of .grantActive)
    else
      (({ s with permit.shuttleGrant := none }.setPosition (Position.ofIn y)).promoteBoth,
        Reply.of .ok [.nat (Position.ofIn y).code])

def execShuttleDone (p : PortId) (position : Byte) (s : State) : Host.Outcome State Fault Refusal :=
  .next (s.serve p (.shuttleDone p position) (shuttleDoneAct position))

/-! ### Work areas (R126, R128) -/

/-- R126: the area not named. -/
def otherArea : Area → Area
  | .press => .load | .load => .press

/-- R126: the cases of AREA ENTER in their order, the wake rule applied. -/
def State.enterArea (s : State) (u : AreaUser) (r : Area) : State × Reply :=
  let x := s.permit.areas.get r
  let o := s.permit.areas.get (otherArea r)
  if x.holder = some u then (s, Reply.of .ok)
  else if o.holder = some u ∨ o.waiter = some u then (s, Reply.of .holdsOther)
  else if x.waiter = some u then (s, Reply.of .pending)
  else if x.holder = none ∧ s.enterable r = true then
    (s.setArea r { x with holder := some u }, Reply.of .ok)
  else if x.waiter.isSome then (s, Reply.of .busy)
  else (s.setArea r { x with waiter := some u }, Reply.of .pending)

/-- R126. Only LOADER and EXTRACT can have the request routed (R178), so the reply NOT_PERMITTED
is the port block's own. -/
def areaEnterAct (p : PortId) (area : Byte) (s : State) : State × Reply :=
  match areaOf area, AreaUser.ofRole (s.roleOf p) with
  | none, _ => (s, Reply.of .invalid)
  | some _, none => (s, Reply.of .notPermitted)
  | some r, some u => s.wake.enterArea u r

def execAreaEnter (p : PortId) (area : Byte) (s : State) : Host.Outcome State Fault Refusal :=
  .next (s.serve p (.areaEnter p area) (areaEnterAct p area))

/-- R128, R140: the holder field of an area becomes NONE: an ejection loses its permission when it
was EXTRACT's claim on LOAD_AREA. -/
def State.releaseArea (s : State) (u : AreaUser) (r : Area) : State :=
  let s1 := s.setArea r { s.permit.areas.get r with holder := none }
  if r = .load ∧ u = .extract then s1.stopEject .areaReleased else s1

/-- R128: the cases of AREA LEAVE. -/
def State.leaveArea (s : State) (u : AreaUser) (r : Area) : State × Reply :=
  let x := s.permit.areas.get r
  if x.holder = some u then ((s.releaseArea u r).promote r, Reply.of .ok)
  else if x.waiter = some u then (s.setArea r { x with waiter := none }, Reply.of .cancelled)
  else (s, Reply.of .notHolder)

/-- R128 -/
def areaLeaveAct (p : PortId) (area : Byte) (s : State) : State × Reply :=
  match areaOf area, AreaUser.ofRole (s.roleOf p) with
  | none, _ => (s, Reply.of .invalid)
  | some _, none => (s, Reply.of .notPermitted)
  | some r, some u => s.leaveArea u r

def execAreaLeave (p : PortId) (area : Byte) (s : State) : Host.Outcome State Fault Refusal :=
  .next (s.serve p (.areaLeave p area) (areaLeaveAct p area))

/-- R128: FORCE LEAVE. -/
def forceLeaveAct (area : Byte) (s : State) : State × Reply :=
  match areaOf area with
  | none => (s, Reply.of .invalid)
  | some r =>
    match (s.permit.areas.get r).holder with
    | none => (s, Reply.of .ok [.area none])
    | some u =>
      (((s.releaseArea u r).postAll
          { code := .areaForced, v1 := areaCode r, v2 := roleCode u.role }).promote r,
        Reply.of .ok [.area (some u)])

def execForceLeave (p : PortId) (area : Byte) (s : State) : Host.Outcome State Fault Refusal :=
  .next (s.serve p (.forceLeave p area) (forceLeaveAct area))

end Sys2Proof.Machine
end

