-- ==== Sys2Proof/Machine/PortRequests.lean ====
section
/-!
DEFINITION. The requests the station port block owns (spec file 10): NOP, IDENTIFY, READ NOTICE,
SUBSCRIBE and PORT STATUS.
-/

namespace Sys2Proof.Machine

open Sys2Proof

/-- R188 -/
def execNop (p : PortId) (s : State) : Host.Outcome State Fault Refusal :=
  .next (s.serve p (.nop p) fun s => (s, Reply.of .ok))

/-- R11: the serial counter's state. -/
def State.serialState (s : State) : SerialState :=
  match s.serial with
  | none => .unset
  | some n => if n = 4294967295 then .exhausted else .ready

/-- R188: vendor, part and revision codes, port and role, configuration and clock flags, serial
counter state. -/
def identifyReply (s : State) (p : PortId) : Reply :=
  Reply.of .ok
    [.nat 0x52B4, .nat 0x0212, .nat 0x03, .nat p.toNat, .nat (roleCode (s.roleOf p)),
     .flag s.cfg.isDefault, .flag s.cfg.tableDefault, .flag s.cfg.locked,
     .flag s.clock.derived, .flag s.clock.uncertain, .serialState s.serialState]

def execIdentify (p : PortId) (s : State) : Host.Outcome State Fault Refusal :=
  .next (s.serve p (.identify p) fun s => (s, identifyReply s p))

/-- R184: the class of highest priority present in a queue. -/
def topClass (q : List Queued) : NoticeClass :=
  if q.any fun x => x.notice.code.cls == .alarm then .alarm
  else if q.any fun x => x.notice.code.cls == .completion then .completion
  else .status

/-- R184: a notice as READ NOTICE returns it, with the number of notices left. -/
def Notice.fields (n : Notice) (left : Nat) : List Field :=
  [.nat n.code.cls.code, .nat n.code.number, .optBay n.bay, .optNat n.serial, .num n.v1, .num n.v2,
   .nat left]

/-- R184: the oldest notice of the highest class present removed and returned. -/
def readNoticeAct (p : PortId) (s : State) : State × Reply :=
  let q := s.ports.get p
  match q.queue.find? fun x => x.notice.code.cls == topClass q.queue with
  | none => (s, Reply.of .empty [.nat 0])
  | some x =>
    let rest := dropOldest (topClass q.queue) q.queue
    (s.setPort p { q with queue := rest }, Reply.of .ok (x.notice.fields rest.length))

def execReadNotice (p : PortId) (s : State) : Host.Outcome State Fault Refusal :=
  .next (s.serve p (.readNotice p) (readNoticeAct p))

/-- R185: a trigger level SUBSCRIBE takes. -/
def triggerOf (b : Byte) : Option Nat :=
  if b = 1#8 ∨ b = 2#8 ∨ b = 4#8 ∨ b = 8#8 then some b.toNat else none

/-- R185: the set becomes exactly the codes listed, each counted once. The reply carries the new
level and then the new set by ascending code: the order of these items is the model's choice
(notes/assumptions/19). -/
def subscribeAct (p : PortId) (level : Byte) (codes : List Byte) (s : State) : State × Reply :=
  match triggerOf level with
  | none => (s, Reply.of .invalid)
  | some n =>
    if codes.all fun c => (subscribableOf c).isSome then
      let subs := subscribable.filter fun c => decide (c ∈ codes.filterMap subscribableOf)
      (s.setPort p { s.ports.get p with subs := subs, trigger := n },
        Reply.of .ok (.nat n :: subs.map fun c => .nat c.number))
    else (s, Reply.of .invalid)

def execSubscribe (p : PortId) (level : Byte) (codes : List Byte) (s : State) :
    Host.Outcome State Fault Refusal :=
  .next (s.serve p (.subscribe p level codes) (subscribeAct p level codes))

def ErrorFlag.fields (f : ErrorFlag) : List Field := [.flag f.set, .flag f.reported]

/-- R181: what PORT STATUS reports of a port, as it stands before the request. -/
def portStatusReply (s : State) (p : PortId) : Reply :=
  let q := s.ports.get p
  Reply.of .ok
    ([.nat (roleCode (s.roleOf p)), .nat q.state.code, .nat q.queue.length, .nat q.trigger]
      ++ q.flags.check.fields ++ q.flags.length.fields ++ q.flags.unknown.fields
      ++ q.flags.permission.fields ++ q.flags.noticeLost.fields)

/-- R181: the flags a list of codes names; none when a code is outside 1 to 5. -/
def flagNames : List Byte → Option (List FlagName)
  | [] => some []
  | c :: cs =>
    match FlagName.ofCode c, flagNames cs with
    | some n, some ns => some (n :: ns)
    | _, _ => none

/-- R181: a request that meets both refusals, another port named by a role other than LINE beside a
port number above 3 or a flag code outside 1 to 5, is INVALID and sets no flag, by the model's choice
(notes/assumptions/24). -/
def portStatusAct (p : PortId) (named : Option (Byte × List Byte)) (s : State) : State × Reply :=
  match named with
  | none => (s, portStatusReply s p)
  | some (port, codes) =>
    match Ix4.ofNat? port.toNat, flagNames codes with
    | some t, some ns =>
      if t ≠ p ∧ s.roleOf p ≠ .line then (s.raiseFlag p .permission, Reply.of .notPermitted)
      else
        let q := s.ports.get t
        (s.setPort t { q with flags := clearFlags q.flags ns }, portStatusReply s t)
    | _, _ => (s, Reply.of .invalid)

def execPortStatus (p : PortId) (named : Option (Byte × List Byte)) (s : State) :
    Host.Outcome State Fault Refusal :=
  .next (s.serve p (.portStatus p named) (portStatusAct p named))

end Sys2Proof.Machine
end

