-- ==== Sys2Proof/Machine/Recipes.lean ====
section
/-!
DEFINITION. The requests that change the recipe table and the mould records (spec file 02): RECIPE
WRITE, RECIPE ERASE, BAY BIND, BAY UNBIND, RELEASE APPLIED and MOULD CHECKED.
-/

namespace Sys2Proof.Machine

open Sys2Proof

/-! ### RECIPE WRITE and RECIPE ERASE (R27 to R29) -/

/-- R25: the revision counter after an accepted write. -/
def nextRevision (n : Nat) : Nat := if 65535 ≤ n then 1 else n + 1

/-- R27, check 3: another VALID slot holds the recipe number. -/
def State.numberTaken (s : State) (i : Ix16) (number : Nat) : Bool :=
  Ix16.all.any fun j => decide (j ≠ i) && (s.recipeAt j).any fun r => r.number == number

/-- R27, checks 2 to 6 on the values that would be stored. An INVALID reply carries the order number
of its check. -/
def State.judgeWrite (s : State) (i : Ix16) (r : Recipe) : Option Reply :=
  if 0 < (s.recipes.get i).inUse then some (Reply.of .inUse)
  else if s.numberTaken i r.number then some (Reply.of .invalid [.nat 3])
  else if r.maxClosed < r.minClosed then some (Reply.of .invalid [.nat 4])
  else if r.abortLimit ≤ r.demouldLimit then some (Reply.of .invalid [.nat 5])
  else if r.chargeTarget < r.tolLow then some (Reply.of .invalid [.nat 6])
  else none

/-- R28: the contents of a slot replaced; the zones that draw on it take the new setpoints. -/
def State.writeRecipe (s : State) (i : Ix16) (r : Recipe) : State :=
  let x := s.recipes.get i
  let x' := { x with recipe := some r, revision := nextRevision x.revision }
  { s with recipes := s.recipes.set i x' }.rederiveZones

/-- R27, R28 -/
def recipeWriteAct (slot : Byte) (fields : RawRecipe) (s : State) : State × Reply :=
  match slotOf slot with
  | none => (s, Reply.of .invalid [.nat 1])
  | some i =>
    if fields.number = 0#16 then (s, Reply.of .invalid [.nat 1])
    else
      match s.judgeWrite i (storedRecipe fields) with
      | some r => (s, r)
      | none =>
        (s.writeRecipe i (storedRecipe fields),
          Reply.of .ok
            ([.flag (decide (storedRecipe fields ≠ receivedRecipe fields)),
              .nat (nextRevision (s.recipes.get i).revision)] ++ (storedRecipe fields).fields))

def execRecipeWrite (p : PortId) (slot : Byte) (fields : RawRecipe) (s : State) :
    Host.Outcome State Fault Refusal :=
  .next (s.serve p (.recipeWrite p slot fields) (recipeWriteAct slot fields))

/-- R29, check 3: the recipe slot field of either bay record names the slot. -/
def State.slotBound (s : State) (i : Ix16) : Bool :=
  (s.bays.get .a).recipeSlot == some i || (s.bays.get .b).recipeSlot == some i

/-- R29 -/
def recipeEraseAct (slot : Byte) (s : State) : State × Reply :=
  match slotOf slot with
  | none => (s, Reply.of .invalid)
  | some i =>
    let x := s.recipes.get i
    if 0 < x.inUse then (s, Reply.of .inUse)
    else if s.slotBound i then (s, Reply.of .bound)
    else
      match x.recipe with
      | none => (s, Reply.of .ok)
      | some _ =>
        ({ s with recipes := s.recipes.set i { x with recipe := none } },
          Reply.of .ok [.nat x.revision])

def execRecipeErase (p : PortId) (slot : Byte) (s : State) : Host.Outcome State Fault Refusal :=
  .next (s.serve p (.recipeErase p slot) (recipeEraseAct slot))

/-! ### BAY BIND and BAY UNBIND (R33, R34) -/

/-- R33: the bay record after an accepted bind, but for the mould-check flag. -/
def BayRecord.bind (r : BayRecord) (mould : Nat) (i : Ix16) : BayRecord :=
  if r.mouldId = mould then { r with recipeSlot := some i }
  else { r with mouldId := mould, recipeSlot := some i, shotsOnBinding := 0, lowerCount := 0 }

/-- R33: the effects of an accepted bind: a new mould clears the flag with its hold (R38). -/
def State.bindBay (s : State) (y : Bay) (mould : Nat) (i : Ix16) : State :=
  let r := s.bays.get y
  let s1 := s.setBay y (r.bind mould i)
  (if r.mouldId = mould then s1 else s1.setMouldCheck y false).rederiveZones

/-- R33, checks 2 to 4. -/
def State.judgeBind (s : State) (y : Bay) (mould : Nat) (i : Ix16) : Option ResultCode :=
  if (s.slots.get y).isSome then some .wrongStage
  else if (s.recipeAt i).isNone then some .invalid
  else if (s.bays.get y.other).mouldId = mould then some .invalid
  else none

/-- R33 -/
def bayBindAct (bay : Byte) (mould : BitVec 16) (slot : Byte) (s : State) : State × Reply :=
  match bayOf bay, slotOf slot with
  | some y, some i =>
    if mould = 0#16 then (s, Reply.of .invalid)
    else
      match s.judgeBind y mould.toNat i with
      | some c => (s, Reply.of c)
      | none =>
        (s.bindBay y mould.toNat i,
          Reply.of .ok ((s.bindBay y mould.toNat i).bays.get y).fields)
  | _, _ => (s, Reply.of .invalid)

def execBayBind (p : PortId) (bay : Byte) (mould : BitVec 16) (slot : Byte) (s : State) :
    Host.Outcome State Fault Refusal :=
  .next (s.serve p (.bayBind p bay mould slot) (bayBindAct bay mould slot))

/-- R34 -/
def bayUnbindAct (bay : Byte) (s : State) : State × Reply :=
  match bayOf bay with
  | none => (s, Reply.of .invalid)
  | some y =>
    if (s.slots.get y).isSome then (s, Reply.of .wrongStage)
    else if !s.bound y then (s, Reply.of .ok)
    else
      ((s.setBay y { s.bays.get y with mouldId := 0, recipeSlot := none }).rederiveZones,
        Reply.of .ok)

def execBayUnbind (p : PortId) (bay : Byte) (s : State) : Host.Outcome State Fault Refusal :=
  .next (s.serve p (.bayUnbind p bay) (bayUnbindAct bay))

/-! ### RELEASE APPLIED and MOULD CHECKED (R37, R38) -/

/-- R37: EXTRACT needs the area of the target; LINE does not. -/
def State.lacksArea (s : State) (p : PortId) (r : Area) : Bool :=
  s.roleOf p == .extract && (s.permit.areas.get r).holder != some .extract

/-- R37 -/
def releaseAppliedAct (p : PortId) (target : Byte) (s : State) : State × Reply :=
  match releaseTargetOf target with
  | none => (s, Reply.of .invalid)
  | some (.lower y) =>
    if s.permit.position.outBay ≠ some y then (s, Reply.of .wrongStage)
    else if (s.slots.get y).isSome then (s, Reply.of .wrongStage)
    else if s.lacksArea p .load then (s, Reply.of .areaRequired)
    else
      (s.setBay y { s.bays.get y with lowerCount := 0 }, Reply.of .ok [.nat (s.bays.get y).lowerCount])
  | some .upper =>
    if s.lacksArea p .press then (s, Reply.of .areaRequired)
    else ({ s with upperCount := 0 }, Reply.of .ok [.nat s.upperCount])

def execReleaseApplied (p : PortId) (target : Byte) (s : State) :
    Host.Outcome State Fault Refusal :=
  .next (s.serve p (.releaseApplied p target) (releaseAppliedAct p target))

/-- R38 -/
def mouldCheckedAct (bay : Byte) (s : State) : State × Reply :=
  match bayOf bay with
  | none => (s, Reply.of .invalid)
  | some y => (s.setMouldCheck y false, Reply.of .ok [.flag (s.bays.get y).mouldCheck])

def execMouldChecked (p : PortId) (bay : Byte) (s : State) : Host.Outcome State Fault Refusal :=
  .next (s.serve p (.mouldChecked p bay) (mouldCheckedAct bay))

end Sys2Proof.Machine
end

