-- ==== Sys2Proof/Machine/ShotRequests.lean ====
section
/-!
DEFINITION. LINE's requests on shots (spec file 01): SHOT ABORT and SERIAL BASE.
-/

namespace Sys2Proof.Machine

open Sys2Proof

/-- R18, first: a weigh for the aborted bay is cancelled. -/
def State.abortWeigh (s : State) (y : Bay) : State :=
  if s.weigh.slot = .weigh y then s.endWeigh y .weighCancelled 2 0 else s

/-- R119: the cause of the withdrawal that the abort of a bay's shot brings: 4 (Abort), or 3 (Heat
mode), an earlier row of its table, when the filing of the same event completes a park (R69) and so
takes the mode out of RUN. -/
def State.abortCause (s : State) (y : Bay) : Nat :=
  if s.heat.parkPending ∧ (s.slots.get y.other).isNone ∧ s.heat.mode = .run then 3 else 4

/-- R18, second: a close grant of the aborted bay is withdrawn as R119 states. -/
def State.abortClose (s : State) (y : Bay) : State :=
  if s.permit.closeGrant = some y then s.withdrawClose (s.abortCause y) else s

/-- R18, third: an ejection on the aborted bay ends, with its peak and no sticking judgement. -/
def State.abortEject (s : State) (y : Bay) : State :=
  if s.ejecting y then { s.recordPeak y with eject := Eject.start } else s

/-- R17, steps 1 and 2: the shot released by its neighbours, and ABORTED added. -/
def State.abortShot (s : State) (y : Bay) : State :=
  (((s.abortWeigh y).abortClose y).abortEject y).addExc y .aborted

/-- R17 -/
def shotAbortAct (bay : Byte) (s : State) : State × Reply :=
  match bayOf bay with
  | none => (s, Reply.of .invalid)
  | some y =>
    match s.slots.get y with
    | none => (s, Reply.of .wrongStage)
    | some sh =>
      ((s.abortShot y).fileShot y .aborted,
        Reply.of .ok
          [.nat sh.serial,
           .nat (verdictOf (((s.abortShot y).slots.get y).elim [] (·.exceptions))).code])

def execShotAbort (p : PortId) (bay : Byte) (s : State) : Host.Outcome State Fault Refusal :=
  .next (s.serve p (.shotAbort p bay) (shotAbortAct bay))

/-- R12 -/
def serialBaseAct (value : BitVec 32) (s : State) : State × Reply :=
  if s.serial = none ∧ 1 ≤ value.toNat ∧ value.toNat ≤ 4294967294 then
    ({ s with serial := some value.toNat }, Reply.of .ok [.nat value.toNat])
  else (s, Reply.of .invalid)

def execSerialBase (p : PortId) (value : BitVec 32) (s : State) :
    Host.Outcome State Fault Refusal :=
  .next (s.serve p (.serialBase p value) (serialBaseAct value))

end Sys2Proof.Machine
end

