-- ==== Sys2Proof/Machine/ConfigItems.lean ====
section
/-!
DEFINITION. The configuration items (R194): an item's data read by its tag, clamped to its ranges,
and stored; the image judged and its entries taken; the maps resolved against the node table (R165).
-/

namespace Sys2Proof.Machine

open Sys2Proof

/-- A configuration item with its values as the data carry them. -/
inductive Item where
  | portRoles (codes : Quad Byte)
  | silence (limits : PerRole Nat)
  | frameTimeout (ms : Nat)
  | reportErrors (on : Bool)
  | ratings (w : Zones Nat)
  | budget (w : Nat)
  | gains (upper mould : Gains)
  | rampLimit (r : Nat)
  | setback (upper mould : Int)
  | cutback (t : Int)
  | idleLimit (min : Nat)
  | enabledAtStart (z : Zones Bool)
  | recovery (p : RecoveryPolicy)
  | rateTable (factors : List Nat)
  | nodeKinds (k : Hex NodeKind)
  | zoneMap (m : Zones (Option ZoneSource))
  | loadMap (m : PerChan (Option Ix16))
  | replyTimeout (ms : Nat)
  | channels (c : PerChan ChannelCal)
  | bands (b : PerChan Nat)
  | weighTimeout (sec : Nat)
  | capacity (g : Nat)
  | minPiece (g : Nat)
deriving DecidableEq, Repr

/-! ### Reading an item's data (R194, third table) -/

/-- The unsigned 16-bit fields of a list of bytes, high byte first; a last odd byte names none. -/
def fields16 : List Byte → List (BitVec 16)
  | a :: b :: l => join16 a b :: fields16 l
  | _ => []

def readQuadNat (l : List (BitVec 16)) : Option (Quad Nat × List (BitVec 16)) :=
  match l with
  | a :: b :: c :: d :: r => some (⟨a.toNat, b.toNat, c.toNat, d.toNat⟩, r)
  | _ => none

/-- Twelve unsigned 16-bit fields, zones 0 to 11. -/
def readZonesNat (l : List Byte) : Option (Zones Nat) :=
  match readQuadNat (fields16 l) with
  | some (u, r) =>
    match readQuadNat r with
    | some (a, r') =>
      match readQuadNat r' with
      | some (b, _) => some ⟨u, a, b⟩
      | none => none
    | none => none
  | none => none

/-- A node kind code; another byte names none. -/
def kindOfCode : Byte → Option NodeKind
  | 0#8 => some .unused | 1#8 => some .temp | 2#8 => some .load | _ => none

def readQuadKinds : List Byte → Option (Quad NodeKind)
  | [a, b, c, d] =>
    match kindOfCode a, kindOfCode b, kindOfCode c, kindOfCode d with
    | some w, some x, some y, some z => some ⟨w, x, y, z⟩
    | _, _, _, _ => none
  | _ => none

def readKinds (l : List Byte) : Option (Hex NodeKind) :=
  match readQuadKinds (l.take 4), readQuadKinds ((l.drop 4).take 4),
      readQuadKinds ((l.drop 8).take 4), readQuadKinds (l.drop 12) with
  | some a, some b, some c, some d => some ⟨a, b, c, d⟩
  | _, _, _, _ => none

/-- R194: a zone map position: node address 00h or above 16, or a channel above 3, is unmapped. -/
def zoneSourceOf (node channel : Byte) : Option ZoneSource :=
  match nodeOf node, Ix4.ofNat? channel.toNat with
  | some n, some c => some ⟨n, c⟩
  | _, _ => none

/-- The byte at a place of an entry's data. -/
def byteAt (l : List Byte) (i : Nat) : Byte := l.getD i 0#8

def readZoneMap (l : List Byte) : Zones (Option ZoneSource) :=
  Zones.ofFn fun z => zoneSourceOf (byteAt l (2 * z.number)) (byteAt l (2 * z.number + 1))

/-- The 21 bytes of tag 40h, seven to a channel: zero, span, window. -/
def readCal (l : List Byte) (i : Nat) : ChannelCal where
  zero := (join24 (byteAt l i) (byteAt l (i + 1)) (byteAt l (i + 2))).toInt
  span := (join24 (byteAt l (i + 3)) (byteAt l (i + 4)) (byteAt l (i + 5))).toInt
  window := (byteAt l (i + 6)).toNat

def u16At (l : List Byte) (i : Nat) : Nat := (join16 (byteAt l i) (byteAt l (i + 1))).toNat

def s16At (l : List Byte) (i : Nat) : Int := (join16 (byteAt l i) (byteAt l (i + 1))).toInt

def u32At (l : List Byte) (i : Nat) : Nat :=
  (join32 (byteAt l i) (byteAt l (i + 1)) (byteAt l (i + 2)) (byteAt l (i + 3))).toNat

/-- R194: the data length each tag is given; none for an unknown tag. -/
def itemLength : Byte → Option Nat
  | 0x01#8 => some 4 | 0x02#8 => some 8 | 0x03#8 => some 1 | 0x04#8 => some 1
  | 0x10#8 => some 24 | 0x11#8 => some 4 | 0x12#8 => some 8 | 0x13#8 => some 2
  | 0x14#8 => some 4 | 0x15#8 => some 2 | 0x16#8 => some 1 | 0x17#8 => some 2 | 0x18#8 => some 1
  | 0x20#8 => some 32
  | 0x30#8 => some 16 | 0x31#8 => some 24 | 0x32#8 => some 3 | 0x33#8 => some 1
  | 0x40#8 => some 21 | 0x41#8 => some 6 | 0x42#8 => some 1 | 0x43#8 => some 4
  | 0x44#8 => some 4 | _ => none

/-- R194: the item that data of the right length spell; none when a field whose values are named
codes carries a code outside its set. -/
def itemOf (tag : Byte) (l : List Byte) : Option Item :=
  match tag with
  | 0x01#8 => some (.portRoles ⟨byteAt l 0, byteAt l 1, byteAt l 2, byteAt l 3⟩)
  | 0x02#8 => some (.silence ⟨u16At l 0, u16At l 2, u16At l 4, u16At l 6⟩)
  | 0x03#8 => some (.frameTimeout (byteAt l 0).toNat)
  | 0x04#8 =>
    if byteAt l 0 = 0#8 then some (.reportErrors false)
    else if byteAt l 0 = 1#8 then some (.reportErrors true) else none
  | 0x10#8 => (readZonesNat l).map .ratings
  | 0x11#8 => some (.budget (u32At l 0))
  | 0x12#8 => some (.gains ⟨u16At l 0, u16At l 2⟩ ⟨u16At l 4, u16At l 6⟩)
  | 0x13#8 => some (.rampLimit (u16At l 0))
  | 0x14#8 => some (.setback (s16At l 0) (s16At l 2))
  | 0x15#8 => some (.cutback (s16At l 0))
  | 0x16#8 => some (.idleLimit (byteAt l 0).toNat)
  | 0x17#8 => some (.enabledAtStart (Zones.ofFn fun z => (u16At l 0).testBit z.number))
  | 0x18#8 =>
    if byteAt l 0 = 0#8 then some (.recovery .off)
    else if byteAt l 0 = 1#8 then some (.recovery .setback)
    else if byteAt l 0 = 2#8 then some (.recovery .previous) else none
  | 0x20#8 => some (.rateTable ((fields16 l).map BitVec.toNat))
  | 0x30#8 => (readKinds l).map .nodeKinds
  | 0x31#8 => some (.zoneMap (readZoneMap l))
  | 0x32#8 => some (.loadMap ⟨nodeOf (byteAt l 0), nodeOf (byteAt l 1), nodeOf (byteAt l 2)⟩)
  | 0x33#8 => some (.replyTimeout (byteAt l 0).toNat)
  | 0x40#8 => some (.channels ⟨readCal l 0, readCal l 7, readCal l 14⟩)
  | 0x41#8 => some (.bands ⟨u16At l 0, u16At l 2, u16At l 4⟩)
  | 0x42#8 => some (.weighTimeout (byteAt l 0).toNat)
  | 0x43#8 => some (.capacity (u32At l 0))
  | 0x44#8 => some (.minPiece (u32At l 0))
  | _ => none

/-- R194: an entry's data read by its tag, with the length they must have. -/
def readItem (tag : Byte) (l : List Byte) : Option Item :=
  if itemLength tag = some l.length then itemOf tag l else none

/-! ### Ranges -/

/-- R174: a silence limit: 0, or 100 to 60,000 ms; 1 to 99 become 100. -/
def clampSilence (n : Nat) : Nat := if n = 0 then 0 else clampNat 100 60000 n

/-- R87: a window not in the set takes the channel's default. -/
def clampWindow (c : Chan) (n : Nat) : Nat :=
  if n = 1 ∨ n = 2 ∨ n = 4 ∨ n = 8 ∨ n = 16 then n else defaultWindow c

def clampCal (c : Chan) (k : ChannelCal) : ChannelCal := { k with window := clampWindow c k.window }

/-- R194: an item's values clamped to their ranges. -/
def Item.clamped : Item → Item
  | .silence x =>
    .silence ⟨clampSilence x.press, clampSilence x.loader, clampSilence x.extract, clampSilence x.line⟩
  | .frameTimeout n => .frameTimeout (clampNat 1 100 n)
  | .ratings x => .ratings (Zones.ofFn fun z => clampNat 0 20000 (x.get z))
  | .budget n => .budget (clampNat 0 200000 n)
  | .rampLimit n => .rampLimit (clampNat 0 1000 n)
  | .setback a b => .setback (clampInt 0 4000 a) (clampInt 0 4000 b)
  | .cutback t => .cutback (clampInt 0 4500 t)
  | .idleLimit n => .idleLimit (clampNat 0 240 n)
  | .replyTimeout n => .replyTimeout (clampNat 1 32 n)
  | .channels x => .channels ⟨clampCal .w x.w, clampCal .fa x.fa, clampCal .fb x.fb⟩
  | .weighTimeout n => .weighTimeout (clampNat 1 30 n)
  | .capacity n => .capacity (clampNat 1 99999 n)
  | .minPiece n => .minPiece (clampNat 0 99999 n)
  | .portRoles x => .portRoles x
  | .reportErrors x => .reportErrors x
  | .gains a b => .gains a b
  | .enabledAtStart x => .enabledAtStart x
  | .recovery p => .recovery p
  | .rateTable l => .rateTable l
  | .nodeKinds k => .nodeKinds k
  | .zoneMap m => .zoneMap m
  | .loadMap m => .loadMap m
  | .bands x => .bands x

/-! ### Storing -/

/-- R175: the roles, when the item gives each of the four to exactly one port. -/
def rolesOf (codes : Quad Byte) : Option (PerPort Role) :=
  match roleOfCode codes.c0, roleOfCode codes.c1, roleOfCode codes.c2, roleOfCode codes.c3 with
  | some a, some b, some c, some d =>
    if a ≠ b ∧ a ≠ c ∧ a ≠ d ∧ b ≠ c ∧ b ≠ d ∧ c ≠ d then some ⟨a, b, c, d⟩ else none
  | _, _, _, _ => none

/-- R74: each factor is at or above the one before it. -/
def nonDecreasing : List Nat → Bool
  | a :: b :: l => decide (a ≤ b) && nonDecreasing (b :: l)
  | _ => true

/-- R74: the rate table of an entry, when it holds sixteen factors of 0 to 4095, non-decreasing. -/
def rateTableOf (l : List Nat) : Option (Hex Nat) :=
  if l.length = 16 ∧ (l.all fun f => decide (f ≤ 4095)) = true ∧ nonDecreasing l = true then
    some (Hex.ofFn fun i => l.getD i.toNat 0)
  else none

/-- R194: an item stored, its values clamped. A port roles item or a rate table that fails its own
check is discarded whole (R175, R74), the latter with TABLE_DEFAULT set. -/
def Cfg.store (c : Cfg) (i : Item) : Cfg :=
  match i.clamped with
  | .portRoles x =>
    match rolesOf x with
    | some r => { c with roles := r }
    | none => c
  | .silence x => { c with silence := x }
  | .frameTimeout n => { c with frameTimeout := n }
  | .reportErrors x => { c with reportErrors := x }
  | .ratings x => { c with ratings := x }
  | .budget n => { c with budget := n }
  | .gains a b => { c with upperGains := a, mouldGains := b }
  | .rampLimit n => { c with rampLimit := n }
  | .setback a b => { c with setbackUpper := a, setbackMould := b }
  | .cutback t => { c with cutback := t }
  | .idleLimit n => { c with idleLimit := n }
  | .enabledAtStart x => { c with enabledAtStart := x }
  | .recovery p => { c with recovery := p }
  | .rateTable l =>
    match rateTableOf l with
    | some t => { c with rateTable := t }
    | none => { c with tableDefault := true }
  | .nodeKinds k => { c with nodeKinds := k }
  | .zoneMap m => { c with zoneMap := m }
  | .loadMap m => { c with loadMap := m }
  | .replyTimeout n => { c with replyTimeout := n }
  | .channels x => { c with channels := x }
  | .bands x => { c with bands := x }
  | .weighTimeout n => { c with weighTimeout := n }
  | .capacity n => { c with capacity := n }
  | .minPiece n => { c with minPiece := n }

/-! ### The image (R194) -/

/-- R194: the rate table entry is judged by R74 alone, whatever its length. -/
def imageItem (tag : Byte) (l : List Byte) : Option Item :=
  if tag = 0x20#8 then
    if l.length = 32 then itemOf tag l else some (.rateTable [])
  else readItem tag l

/-- R194, step 4: the entries in order; `taken` holds the tags already taken. An entry whose length
runs past the end of the area ends the reading; `fuel` bounds the entries by the area's bytes. -/
def takeEntries (c : Cfg) (taken : List Byte) : Nat → List Byte → Cfg
  | 0, _ => c
  | fuel + 1, tag :: len :: l =>
    if l.length < len.toNat then c
    else
      let rest := l.drop len.toNat
      if tag ∈ taken then takeEntries c taken fuel rest
      else
        match imageItem tag (l.take len.toNat) with
        | some i => takeEntries (c.store i) (tag :: taken) fuel rest
        | none => takeEntries c taken fuel rest
  | _ + 1, _ => c

/-- R165: a zone map entry kept: its node is of kind TEMP and no zone of the list is mapped to the
same node and channel. -/
def keepZone (kinds : Hex NodeKind) (earlier : List (Option ZoneSource)) (m : Option ZoneSource) :
    Option ZoneSource :=
  match m with
  | none => none
  | some x => if kinds.get x.node = .temp ∧ some x ∉ earlier then some x else none

/-- R165: the zone map's entries kept, zone by zone in ascending order. -/
def resolveZones (kinds : Hex NodeKind) :
    List (Option ZoneSource) → List (Option ZoneSource) → List (Option ZoneSource)
  | _, [] => []
  | earlier, m :: ms =>
    let k := keepZone kinds earlier m
    k :: resolveZones kinds (k :: earlier) ms

def resolveZoneMap (kinds : Hex NodeKind) (m : Zones (Option ZoneSource)) :
    Zones (Option ZoneSource) :=
  let l := resolveZones kinds [] m.toList
  Zones.ofFn fun z => (l.getD z.number none)

/-- R165: a load map entry kept: its node is of kind LOAD and no earlier channel is mapped to it. -/
def keepLoad (kinds : Hex NodeKind) (earlier : List (Option Ix16)) (m : Option Ix16) : Option Ix16 :=
  match m with
  | none => none
  | some n => if kinds.get n = .load ∧ some n ∉ earlier then some n else none

def resolveLoadMap (kinds : Hex NodeKind) (m : PerChan (Option Ix16)) : PerChan (Option Ix16) :=
  let w := keepLoad kinds [] m.w
  let fa := keepLoad kinds [w] m.fa
  let fb := keepLoad kinds [w, fa] m.fb
  ⟨w, fa, fb⟩

/-- R165: the maps checked against the node table, entry by entry: R194 speaks of maps discarded whole
and leaves the rest to the item rules of the owning chapters (notes/assumptions/15). -/
def Cfg.resolved (c : Cfg) : Cfg :=
  { c with zoneMap := resolveZoneMap c.nodeKinds c.zoneMap,
           loadMap := resolveLoadMap c.nodeKinds c.loadMap }

/-- R194: the largest entry area a header may name. -/
def maxArea : Nat := 4088

/-- R194: the header's fields, when the memory acknowledges its eight bytes: marker, format, lock
item, entry area length, check, and the bytes after the header. -/
def loadImage (mem : List Byte) : Cfg :=
  match mem with
  | m0 :: m1 :: format :: lock :: l0 :: l1 :: c0 :: c1 :: rest =>
    let n := (join16 l0 l1).toNat
    let area := rest.take n
    if m0 = 0x52#8 ∧ m1 = 0xB4#8 ∧ format = 0x01#8 ∧ (lock = 0x00#8 ∨ lock = 0x01#8) ∧ n ≤ maxArea
        ∧ n ≤ rest.length ∧ crc16 area = join16 c0 c1 then
      (takeEntries { Cfg.defaults with locked := lock == 0x01#8 } [] (n + 1) area).resolved
    else { Cfg.defaults with isDefault := true }
  | _ => { Cfg.defaults with isDefault := true }

/-! ### CONFIG SET (R196) -/

/-- R194: whether CONFIG SET carries a tag. -/
def settable (tag : Byte) : Bool :=
  tag == 0x02#8 || tag == 0x04#8 || tag == 0x11#8 || tag == 0x12#8 || tag == 0x13#8
    || tag == 0x14#8 || tag == 0x16#8 || tag == 0x41#8 || tag == 0x42#8

/-- R196: the values of an item that CONFIG SET carries, in the order of its data. -/
def Item.fields : Item → List Field
  | .silence x => [.nat x.press, .nat x.loader, .nat x.extract, .nat x.line]
  | .reportErrors x => [.flag x]
  | .budget n => [.nat n]
  | .gains a b => [.nat a.kp, .nat a.ki, .nat b.kp, .nat b.ki]
  | .rampLimit n => [.nat n]
  | .setback a b => [.num a, .num b]
  | .idleLimit n => [.nat n]
  | .bands x => [.nat x.w, .nat x.fa, .nat x.fb]
  | .weighTimeout n => [.nat n]
  | _ => []

end Sys2Proof.Machine
end

