-- ==== Sys2Proof/Machine/StartOps.lean ====
section
/-!
DEFINITION. Starts (spec file 11): what stops (R193, step 1), the retained items of a cold start
(R190), the filings of a warm start (R20, R162), the clock (R197), the heat mode (R195), the supply
and the SELF holds (R191, R108), and the start notices (R193).
-/

namespace Sys2Proof.Machine

open Sys2Proof

/-- R174: a port record set up at a start's end; a frame in progress keeps its place on the wire. -/
def Port.setUp (q : Port) (r : Role) : Port := { Port.start r with frame := q.frame }

/-- R190, R193, step 1: all that is not retained stops: heater lines off, permit lines deasserted,
no timer runs, no poll is in progress, and no port holds a frame, a reply or a notice. -/
def State.stopBlocks (s : State) : State :=
  { s with
    ports := Quad.ofFn fun p => Port.start (s.roleOf p)
    heat.lines := Zones.all false
    weigh := Weigh.start
    permit := Permit.start
    eject := Eject.start
    sensor.polling := none }

/-- R192: a start begins. A tripped detector makes it cold, and otherwise it is warm with the cause
of its event. -/
def State.beginStart (s : State) (cause : StartKind) : State :=
  { s.stopBlocks with phase := .starting (if s.retainTripped then .cold else cause) }

/-- R193, step 3, first item: each block's state that is not retained after any start. -/
def State.setUpBlocks (s : State) (c : Cfg) : State :=
  { s with
    cfg := c
    ports := Quad.ofFn fun p => (s.ports.get p).setUp (c.roles.get p)
    heat := Heat.start c.enabledAtStart
    cureMarks := ⟨none, none⟩
    channels := ⟨Channel.start, Channel.start, Channel.start⟩
    weigh := Weigh.start
    permit := Permit.start
    eject := Eject.start
    sensor := Sensor.start c.nodeKinds }

/-- R190, R197: the retained items at a cold start. -/
def State.coldRetained (s : State) : State :=
  { s with
    slots := ⟨none, none⟩
    serial := none
    recipes := Hex.all RecipeSlot.cold
    bays := ⟨BayRecord.cold, BayRecord.cold⟩
    upperCount := 0
    history := History.cold
    lastHeat := ⟨.off, false⟩
    clock := { s.clock with time := 0#32, uncertain := true }
    retainTripped := false }

/-- R20: the exception a warm start adds before it files an open shot. -/
def startExc : StartKind → Exc
  | .mainLoss => .powerInterrupted
  | .resetLine => .aborted
  | .restart => .aborted
  | .cold => .aborted

/-- R193: bay A's open shot and then bay B's, each filed INTERRUPTED. -/
def State.startFilings (s : State) (k : StartKind) : State :=
  let s1 := (s.addExc .a (startExc k)).fileShot .a .interrupted
  (s1.addExc .b (startExc k)).fileShot .b .interrupted

/-- R197: the clock judged at a start. -/
def State.judgeClock (s : State) (k : StartKind) : State :=
  { s with
    clock.uncertain := s.clock.uncertain || (k == .mainLoss && s.clock.derived)
    clock.derived := !s.pins.clk32 }

/-- R195: the heat mode a start sets. -/
def startMode (k : StartKind) (p : RecoveryPolicy) (l : LastHeat) : HeatMode :=
  if k = .cold then .off
  else if l.park then .off
  else
    match p with
    | .off => .off
    | .setback => .setback
    | .previous =>
      match l.mode with
      | .run => .run | .setbackAuto => .run | .setback => .setback | .off => .off

/-- R195: the mode set without a notice, written with park clear into the retained last heat mode,
and the zone states derived from it (R41, R43). -/
def State.startHeat (s : State) (m : HeatMode) : State :=
  { s with heat.mode := m, lastHeat := ⟨m, false⟩ }.rederiveZones

/-- R191, R108: the supply judged from PFWARN and the SELF entries derived, without a notice. -/
def State.startSupply (s : State) : State :=
  { s with
    supply := if s.pins.pfwarn then .warning else .normal
    permit.selfHolds := ⟨false, s.pins.pfwarn, ⟨(s.bays.get .a).mouldCheck, (s.bays.get .b).mouldCheck⟩⟩ }

/-- R193: the start notices in their order. The rule names no value of RETAIN_LOST or POWER_WARN, and
a value that the raising rule does not name is 0 (R182); the value 1 of R191 is that of the edge. -/
def State.startNotices (s : State) (k : StartKind) : State :=
  let s1 := if k = .cold then s.postAll { code := .retainLost } else s
  let s2 := s1.postAll { code := .started, v1 := k.code, v2 := s.heat.mode.code }
  let s3 := if s.supply = .warning then s2.postAll { code := .powerWarn } else s2
  s3.deriveNearFull

/-- R193, step 3: the one event at the end of a start's configuration load. -/
def State.endStart (s : State) (k : StartKind) (image : List Byte) : State :=
  let s1 := s.setUpBlocks (loadImage image)
  let s2 := if k = .cold then s1.coldRetained else s1.startFilings k
  let s3 := s2.judgeClock k
  let s4 := (s3.startHeat (startMode k s3.cfg.recovery s3.lastHeat)).startSupply
  { s4.startNotices k with phase := .running }

end Sys2Proof.Machine
end

