-- ==== Sys2Proof/Machine/Supplies.lean ====
section
/-!
DEFINITION. The supply and start-up block (spec file 11): CLOCK SET, CONFIG SET and RESTART; the
edges of PFWARN; the loss and the return of MAIN and of RETAIN; RESET; the end of a configuration
load; and cell time.
-/

namespace Sys2Proof.Machine

open Sys2Proof

/-! ### Requests -/

/-- R198: the clock as CLOCK SET leaves it. -/
def State.setClock (s : State) (t : CellTime) : State :=
  { s with clock.time := t, clock.uncertain := false }

/-- R198. That the reply gives CLOCK_DERIVED before TIME_UNCERTAIN is the model's choice
(notes/assumptions/19). -/
def clockSetAct (t : CellTime) (s : State) : State × Reply :=
  (s.setClock t,
    Reply.of .ok [.nat s.clock.time.toNat, .flag (s.setClock t).clock.derived,
      .flag (s.setClock t).clock.uncertain])

def execClockSet (p : PortId) (t : CellTime) (s : State) : Host.Outcome State Fault Refusal :=
  .next (s.serve p (.clockSet p t) (clockSetAct t))

/-- R187: the timer of a port whose role's silence limit a CONFIG SET changed. -/
def State.restartTimer (s : State) (old : Cfg) (p : PortId) : State :=
  let q := s.ports.get p
  if q.state = .online ∧ old.silence.get (s.roleOf p) ≠ s.cfg.silence.get (s.roleOf p) then
    s.setPort p { q with timer := s.silenceTimer p }
  else s

/-- R42, R187, R196: an item stored with its immediate effects: a setback temperature derives the
targets again, a changed idle limit returns the idle timer to 0, a changed silence limit restarts
the timer of an ONLINE port. -/
def State.storeItem (s : State) (i : Item) : State :=
  let c := s.cfg.store i
  let s1 := { s with cfg := c }
  let s2 := if c.idleLimit = s.cfg.idleLimit then s1 else { s1 with heat.idleTimer := 0 }
  let s3 :=
    if c.setbackUpper = s.cfg.setbackUpper ∧ c.setbackMould = s.cfg.setbackMould then s2
    else s2.rederiveZones
  (((s3.restartTimer s.cfg .n0).restartTimer s.cfg .n1).restartTimer s.cfg .n2).restartTimer
    s.cfg .n3

/-- R196: the item a CONFIG SET names, when it carries the tag and the data fit it. -/
def settableItem (tag : Byte) (data : List Byte) : Option Item :=
  if settable tag then readItem tag data else none

/-- R196 -/
def configSetAct (tag : Byte) (data : List Byte) (s : State) : State × Reply :=
  match settableItem tag data with
  | none => (s, Reply.of .invalid)
  | some i =>
    if s.cfg.locked then (s, Reply.of .locked)
    else (s.storeItem i, Reply.of .ok (i.clamped.fields ++ [.flag (decide (i.clamped ≠ i))]))

def execConfigSet (p : PortId) (tag : Byte) (data : List Byte) (s : State) :
    Host.Outcome State Fault Refusal :=
  .next (s.serve p (.configSet p tag data) (configSetAct tag data))

/-- R192: RESTART begins a start; its reply is never delivered. -/
def execRestart (p : PortId) (s : State) : Host.Outcome State Fault Refusal :=
  .next (if s.isRunning ∧ s.routed p = some (.restart p) then s.beginStart .restart else s)

/-! ### PFWARN (R191) -/

/-- R191: PFWARN asserted while NORMAL. -/
def State.enterWarning (s : State) : State :=
  if s.supply = .normal then
    (({ s with supply := .warning }.setPowerWarn true).blockGrants .cell).postAll
      { code := .powerWarn, v1 := 1 }
  else s

/-- R191: PFWARN deasserted while WARNING. -/
def State.leaveWarning (s : State) : State :=
  if s.supply = .warning then { s with supply := .normal }.setPowerWarn false else s

/-- R191: the level is kept at every time; the edge is an event of the running part. -/
def execPfwarnAsserted (s : State) : Host.Outcome State Fault Refusal :=
  .next ({ s with pins.pfwarn := true }.event State.enterWarning)

def execPfwarnDeasserted (s : State) : Host.Outcome State Fault Refusal :=
  .next ({ s with pins.pfwarn := false }.event State.leaveWarning)

/-! ### MAIN, RETAIN and RESET (R190, R192) -/

/-- R190, R192: every block stopped. -/
def State.halt (s : State) : State := { s.stopBlocks with phase := .stopped }

/-- R190: MAIN_LOSS. -/
def execMainLoss (s : State) : Host.Outcome State Fault Refusal :=
  .next ({ s with pins.main := false }.halt)

/-- R190: RETAIN_LOSS trips the detector. What the retained items read until the cold start that
follows is not observable: no block acts on them before it clears them. -/
def execRetainLoss (s : State) : Host.Outcome State Fault Refusal :=
  .next { s with retainTripped := true }

/-- R192: MAIN_RISE begins a start. With RESET asserted every block is held, and the start begins
at its release (notes/assumptions/13). MAIN at its working level cannot rise. -/
def execMainRise (s : State) : Host.Outcome State Fault Refusal :=
  .next (
    if s.pins.main then s
    else if s.pins.reset then { s with pins.main := true }
    else { s with pins.main := true }.beginStart .mainLoss)

/-- R192: RESET_ASSERTED holds every block as with MAIN absent. -/
def execResetAsserted (s : State) : Host.Outcome State Fault Refusal :=
  .next ({ s with pins.reset := true }.halt)

/-- R192: RESET_RELEASED begins a start, when the line was asserted and MAIN is present. -/
def execResetReleased (s : State) : Host.Outcome State Fault Refusal :=
  .next (
    if s.pins.reset ∧ s.pins.main then { s with pins.reset := false }.beginStart .resetLine
    else { s with pins.reset := false })

/-- R193, step 3: CONFIG_LOAD_END ends the start in progress. -/
def execConfigLoadEnd (image : List Byte) (s : State) : Host.Outcome State Fault Refusal :=
  .next (
    match s.phase with
    | .starting k => s.endStart k image
    | .running => s
    | .stopped => s)

/-! ### Cell time (R197) -/

/-- R197: CLK32_STOPPED. -/
def execClk32Stopped (s : State) : Host.Outcome State Fault Refusal :=
  .next { s with pins.clk32 := false, clock.derived := true }

/-- R197: CLK32_RESUMED: CLOCK_DERIVED is cleared with MAIN present and stays without. -/
def execClk32Resumed (s : State) : Host.Outcome State Fault Refusal :=
  .next { s with pins.clk32 := true, clock.derived := s.clock.derived && !s.pins.main }

/-- R197: CELL_TIME_SECOND: cell time counts on CLK32, or on the main clock with MAIN present; with
neither it stands still. -/
def execCellTimeSecond (s : State) : Host.Outcome State Fault Refusal :=
  .next (
    if s.pins.clk32 || s.pins.main then { s with clock.time := s.clock.time + 1#32 } else s)

end Sys2Proof.Machine
end

