-- ==== Sys2Proof/Machine/Dispatch.lean ====
section
/-!
DEFINITION. The dispatch of the commands: one arm for each, one direct call of its meaning.
-/

namespace Sys2Proof.Machine

open Sys2Proof

/-- The effect of a command on everything but the queue. -/
def exec (i : Instr) (s : State) : Host.Outcome State Fault Refusal :=
  match i with
  | .frameStart p => Sys2Proof.Machine.execFrameStart p s
  | .frameEnd p bytes spareBits => Sys2Proof.Machine.execFrameEnd p bytes spareBits s
  | .frameTimeout held => Sys2Proof.Machine.execFrameTimeout held s
  | .unknownCode p code params => Sys2Proof.Machine.execUnknownCode p code params s
  | .resultReturn p => Sys2Proof.Machine.execResultReturn p s
  | .noticeAge p => Sys2Proof.Machine.execNoticeAge p s
  | .silenceTimerExpiry p => Sys2Proof.Machine.execSilenceTimerExpiry p s
  | .nop p => Sys2Proof.Machine.execNop p s
  | .identify p => Sys2Proof.Machine.execIdentify p s
  | .readNotice p => Sys2Proof.Machine.execReadNotice p s
  | .subscribe p level codes => Sys2Proof.Machine.execSubscribe p level codes s
  | .portStatus p named => Sys2Proof.Machine.execPortStatus p named s
  | .readShot p bay part => Sys2Proof.Machine.execReadShot p bay part s
  | .readBay p bay => Sys2Proof.Machine.execReadBay p bay s
  | .readZone p zone => Sys2Proof.Machine.execReadZone p zone s
  | .readCell p => Sys2Proof.Machine.execReadCell p s
  | .recipeRead p slot => Sys2Proof.Machine.execRecipeRead p slot s
  | .historyFind p serial page => Sys2Proof.Machine.execHistoryFind p serial page s
  | .readNode p address => Sys2Proof.Machine.execReadNode p address s
  | .holdAdd p scope reason => Sys2Proof.Machine.execHoldAdd p scope reason s
  | .holdRemove p scope reason => Sys2Proof.Machine.execHoldRemove p scope reason s
  | .holdClear p => Sys2Proof.Machine.execHoldClear p s
  | .reportPress p state force => Sys2Proof.Machine.execReportPress p state force s
  | .closeRequest p => Sys2Proof.Machine.execCloseRequest p s
  | .shuttleRequest p target => Sys2Proof.Machine.execShuttleRequest p target s
  | .shuttleDone p position => Sys2Proof.Machine.execShuttleDone p position s
  | .areaEnter p area => Sys2Proof.Machine.execAreaEnter p area s
  | .areaLeave p area => Sys2Proof.Machine.execAreaLeave p area s
  | .forceLeave p area => Sys2Proof.Machine.execForceLeave p area s
  | .chargeBegin p bay => Sys2Proof.Machine.execChargeBegin p bay s
  | .weighPiece p bay => Sys2Proof.Machine.execWeighPiece p bay s
  | .weighCancel p => Sys2Proof.Machine.execWeighCancel p s
  | .removePiece p bay => Sys2Proof.Machine.execRemovePiece p bay s
  | .discardCharge p bay => Sys2Proof.Machine.execDiscardCharge p bay s
  | .chargeDone p bay => Sys2Proof.Machine.execChargeDone p bay s
  | .tare p => Sys2Proof.Machine.execTare p s
  | .ejectBegin p bay => Sys2Proof.Machine.execEjectBegin p bay s
  | .ejectEnd p bay => Sys2Proof.Machine.execEjectEnd p bay s
  | .partTaken p bay condition => Sys2Proof.Machine.execPartTaken p bay condition s
  | .releaseApplied p target => Sys2Proof.Machine.execReleaseApplied p target s
  | .recipeWrite p slot fields => Sys2Proof.Machine.execRecipeWrite p slot fields s
  | .recipeErase p slot => Sys2Proof.Machine.execRecipeErase p slot s
  | .bayBind p bay mould slot => Sys2Proof.Machine.execBayBind p bay mould slot s
  | .bayUnbind p bay => Sys2Proof.Machine.execBayUnbind p bay s
  | .mouldChecked p bay => Sys2Proof.Machine.execMouldChecked p bay s
  | .shotAbort p bay => Sys2Proof.Machine.execShotAbort p bay s
  | .serialBase p value => Sys2Proof.Machine.execSerialBase p value s
  | .heatMode p code => Sys2Proof.Machine.execHeatMode p code s
  | .park p => Sys2Proof.Machine.execPark p s
  | .zoneEnable p zone => Sys2Proof.Machine.execZoneEnable p zone s
  | .zoneDisable p zone => Sys2Proof.Machine.execZoneDisable p zone s
  | .historyNext p page => Sys2Proof.Machine.execHistoryNext p page s
  | .historyAck p serial => Sys2Proof.Machine.execHistoryAck p serial s
  | .dispositionSet p serial disposition => Sys2Proof.Machine.execDispositionSet p serial disposition s
  | .clockSet p time => Sys2Proof.Machine.execClockSet p time s
  | .configSet p tag data => Sys2Proof.Machine.execConfigSet p tag data s
  | .restart p => Sys2Proof.Machine.execRestart p s
  | .heatPeriod => Sys2Proof.Machine.execHeatPeriod s
  | .idleTimerExpiry => Sys2Proof.Machine.execIdleTimerExpiry s
  | .roundBegin => Sys2Proof.Machine.execRoundBegin s
  | .pollReply reply => Sys2Proof.Machine.execPollReply reply s
  | .replyTimeout => Sys2Proof.Machine.execReplyTimeout s
  | .weighTimerExpiry => Sys2Proof.Machine.execWeighTimerExpiry s
  | .ejectionTimerExpiry => Sys2Proof.Machine.execEjectionTimerExpiry s
  | .pfwarnAsserted => Sys2Proof.Machine.execPfwarnAsserted s
  | .pfwarnDeasserted => Sys2Proof.Machine.execPfwarnDeasserted s
  | .mainLoss => Sys2Proof.Machine.execMainLoss s
  | .retainLoss => Sys2Proof.Machine.execRetainLoss s
  | .mainRise => Sys2Proof.Machine.execMainRise s
  | .resetAsserted => Sys2Proof.Machine.execResetAsserted s
  | .resetReleased => Sys2Proof.Machine.execResetReleased s
  | .configLoadEnd image => Sys2Proof.Machine.execConfigLoadEnd image s
  | .clk32Stopped => Sys2Proof.Machine.execClk32Stopped s
  | .clk32Resumed => Sys2Proof.Machine.execClk32Resumed s
  | .heaterSwitchOff zone => Sys2Proof.Machine.execHeaterSwitchOff zone s
  | .cellTimeSecond => Sys2Proof.Machine.execCellTimeSecond s

end Sys2Proof.Machine
end

