-- ==== Sys2Proof/Machine/Step.lean ====
section
/-!
DEFINITION. One step of the block: the command at the front of the queue takes its effect, whole and
indivisible (spec file 95); on an empty queue the block idles.
-/

namespace Sys2Proof.Machine

open Sys2Proof

/-- The step: the front command is taken off the queue and executed with the queue's rest. DESIGN
CHOICE: with no command waiting the block idles (notes/assumptions/7). -/
def step (s : State) : Host.Outcome State Fault Refusal :=
  match s.pending with
  | [] => .next s
  | c :: rest => exec c { s with pending := rest }

/-- A state with the command that a table word spells put at the front of its queue. The rows of the
table carry no bits, so no word spells one (notes/assumptions/7). -/
def State.withFetchWord (s : State) (nbits w : Nat) : State :=
  match decodeTableWord nbits w with
  | some c => { s with pending := c :: s.pending }
  | none => s

end Sys2Proof.Machine
end

