-- ==== Sys2Proof/Safety.lean ====
section
/-!
DEFINITION. The terms in which claims about the CP212 are stated: when a command finds something to
act on, what "answered and nothing else changed" says, the notices an event queues, and the laws the
manual states of every moment of a run. A run is safe when every state of it meets these laws.
-/

namespace Sys2Proof.Machine

open Sys2Proof

/-! ### Commands that find something to act on -/

/-- The part runs, and the port has routed this request to its owner (R178). -/
def Ready (s : State) (p : PortId) (i : Instr) : Prop :=
  s.phase = .running ∧ s.routed p = some i

/-- The next state of a command is `t` with the request answered `r` on its port and the idle timer's
conditions judged again (R66): everything else is as in `t`. -/
def Answers (i : Instr) (s : State) (p : PortId) (t : State) (r : Reply) : Prop :=
  exec i s = .next (t.answer p i r).idleSettled

/-- The next state of a request that may end a grant: `t` answered, with the promotion that the end
brings (R127). -/
def AnswersEnding (i : Instr) (s : State) (p : PortId) (t : State) (r : Reply) : Prop :=
  exec i s = .next ((t.answer p i r).settle s)

/-- The request is turned away with a reply, and nothing else changes. -/
def TurnsAway (i : Instr) (s : State) (p : PortId) (r : Reply) : Prop := Answers i s p s r

/-- R167: a complete reply whose check is the CRC-16 of the bytes before it and whose length fits its
kind, from the node named. -/
def GoodReply (rep : NodeReply) (n : Ix16) : Prop :=
  rep.check = crc16 rep.body ∧ rep.fits = true ∧ rep.address.toNat = n.toNat + 1

/-- R45, R108: the zones once the shuttle position is the one given: derived again if it changed. -/
def State.zonesAt (s : State) (x : Position) : Zones Zone :=
  if s.permit.position = x then s.heat.zones
  else (State.rederiveZones { s with permit.position := x }).heat.zones

/-- R115: the zones once an outstanding shuttle grant is withdrawn: the position becomes UNKNOWN. -/
def State.zonesUnshuttled (s : State) : Zones Zone :=
  if s.permit.shuttleGrant.isSome then s.zonesAt .unknown else s.heat.zones

/-! ### The notices of an event -/

/-- R182: the ports a notice goes to: every port, the subscribed ones, or the port of one role. -/
inductive Audience where
  | every
  | subscribed
  | station (r : Role)
deriving DecidableEq, Repr

def State.send (s : State) (a : Audience) (n : Notice) : State :=
  match a with
  | .every => s.postAll n
  | .subscribed => s.postSubs n
  | .station r => s.postRole r n

/-- The notices of an event queued in their order, a list for each of its causes. -/
def State.sends (s : State) (groups : List (List (Audience × Notice))) : State :=
  groups.flatten.foldl (fun w x => w.send x.1 x.2) s

/-- A list of notices that is queued on a condition. -/
def sentIf (c : Prop) [Decidable c] (l : List (Audience × Notice)) : List (Audience × Notice) :=
  if c then l else []

/-- R115: the notices of a shuttle grant's withdrawal: SHUTTLE_POSITION to UNKNOWN (0), unless it is
UNKNOWN already, and then SHUTTLE_REVOKED with the cause and the target (A_IN 1, B_IN 2). -/
def State.shuttleEnd (s : State) (cause : Int) : List (Audience × Notice) :=
  match s.permit.shuttleGrant with
  | none => []
  | some y =>
    sentIf (s.permit.position ≠ .unknown)
        [(.subscribed, ⟨.shuttlePosition, none, none, 0, s.permit.position.code⟩)]
      ++ [(.station .press, ⟨.shuttleRevoked, none, none, cause, match y with | .a => 1 | .b => 2⟩)]

/-- R119: the notice of a close grant's withdrawal with its cause; `zone` is 0 but for cause 2. -/
def State.closeEnd (s : State) (cause : Int) (zone : Int := 0) : List (Audience × Notice) :=
  match s.permit.closeGrant with
  | none => []
  | some y =>
    [(.station .press, ⟨.closeRevoked, some y, (s.slots.get y).map Shot.serial, cause, zone⟩)]

/-- R127: AREA_GRANTED to the waiter of PRESS_AREA (1) and of LOAD_AREA (2) that has become a holder
between two states. -/
def State.areaGrants (s t : State) : List (Audience × Notice) :=
  let granted := fun (r : Area) (number : Int) => match (s.permit.areas.get r).waiter with
    | some u => sentIf (t.permit.areas.get r ≠ s.permit.areas.get r)
        [((.station u.role : Audience), (⟨.areaGranted, none, none, number, 0⟩ : Notice))]
    | none => []
  granted .press 1 ++ granted .load 2

/-- R127: the areas of `t` are those of `s`, but that a waiter without a holder before it has become
the holder of each area that a grant's end leaves enterable. -/
def PromotedByGrantsEnd (s t : State) : Prop :=
  ∀ r, t.permit.areas.get r =
    match (s.permit.areas.get r).holder, (s.permit.areas.get r).waiter with
    | none, some u =>
      if t.permit.shuttleGrant = none
          ∧ (s.permit.shuttleGrant ≠ none
            ∨ (r = .press ∧ s.permit.closeGrant ≠ none ∧ t.permit.closeGrant = none))
          ∧ (r = .press → t.permit.press = .open ∧ t.permit.closeGrant = none) then
        ⟨some u, none⟩
      else s.permit.areas.get r
    | _, _ => s.permit.areas.get r

/-- R22, R23, R35: the notices of a shot's filing but for those of the store and of a park: if it
reached CLOSED, RELEASE_DUE for the count of its bay and then for the upper count, each where the
filing raises it to its recipe's interval; then CLOSE_REVOKED where the filing withdraws a close
grant (`revoked`), and SHOT_FILED with the verdict and the outcome. `upper` is the upper count before
the filing. The order of lower and upper, and the place of CLOSE_REVOKED, are the model's
(notes/assumptions/18). -/
def State.filingNotices (s : State) (y : Bay) (sh : Shot) (upper : Nat) (verdict outcome : Int)
    (revoked : List (Audience × Notice)) : List (Audience × Notice) :=
  let due := fun (bay : Option Bay) (old interval : Nat) =>
    sentIf (sh.closedAt ≠ none ∧ interval ≠ 0 ∧ old ≠ interval ∧ min 65535 (old + 1) = interval)
      [((.subscribed : Audience), (⟨.releaseDue, bay, none, interval, 0⟩ : Notice))]
  (match s.shotRecipe sh with
    | some r => due (some y) (s.bays.get y).lowerCount r.lowerInterval
        ++ due none upper r.upperInterval
    | none => [])
    ++ revoked ++ [(.subscribed, ⟨.shotFiled, some y, some sh.serial, verdict, outcome⟩)]

/-! ### Supplies and starts (spec file 11) -/

/-- R190: the two states hold the same retained items. -/
def SameRetained (s t : State) : Prop :=
  t.slots = s.slots ∧ t.serial = s.serial ∧ t.recipes = s.recipes ∧ t.bays = s.bays
    ∧ t.upperCount = s.upperCount ∧ t.history.slots = s.history.slots
    ∧ t.history.filingCounter = s.history.filingCounter ∧ t.history.pending = s.history.pending
    ∧ t.lastHeat = s.lastHeat ∧ t.clock = s.clock

/-- R190, R193: the heater lines, the permit lines and the ATTN outputs are inactive. -/
def OutputsInactive (s : State) : Prop :=
  s.closeOk = false ∧ s.shuttleOk = false ∧ s.ejectOk = false ∧ (∀ z, s.heaterOn z = false)
    ∧ ∀ p, s.attn p = false

/-! ### The laws of the permit block (spec file 06) -/

/-- R116, on the grant itself, which SHUTTLE_OK follows. -/
def ShuttleLaw (s : State) : Prop :=
  s.permit.shuttleGrant.isSome = true →
    s.permit.press = .open
      ∧ (∀ r, (s.permit.areas.get r).holder = none)
      ∧ (∀ h ∈ s.holds, h.scope ≠ .cell)
      ∧ s.permit.closeGrant = none

/-- R120, on the grant itself, which CLOSE_OK follows. -/
def CloseLaw (s : State) : Prop :=
  ∀ y, s.permit.closeGrant = some y →
    (s.permit.press = .open ∨ s.permit.press = .closing)
      ∧ s.permit.position.inBay = some y
      ∧ s.shotStage y = some .charged
      ∧ (∀ h ∈ s.holds, h.scope ≠ .cell ∧ h.scope ≠ .bay y)
      ∧ (s.permit.areas.get .press).holder = none
      ∧ s.upperDue = false
      ∧ s.heat.mode = .run
      ∧ (∀ z ∈ curingZones y, (s.heat.zones.get z).atTemp = true)
      ∧ s.permit.shuttleGrant = none

/-- R125: the waiter of an area is never its holder, and no station has a claim on both areas. -/
def AreaLaw (s : State) : Prop :=
  (∀ r u, ¬((s.permit.areas.get r).holder = some u ∧ (s.permit.areas.get r).waiter = some u))
    ∧ ∀ u, ¬(((s.permit.areas.get .press).holder = some u
                ∨ (s.permit.areas.get .press).waiter = some u)
              ∧ ((s.permit.areas.get .load).holder = some u
                ∨ (s.permit.areas.get .load).waiter = some u))

/-- R175: each role is on exactly one port. -/
def RolesLaw (s : State) : Prop := ∀ p q, s.roleOf p = s.roleOf q → p = q

/-- R122: the station entries are no duplicates, at most 12, with a station holder and a reason of 1
to 15; and while the part runs each SELF entry is present exactly while its condition holds. -/
def HoldLaw (s : State) : Prop :=
  s.permit.stationHolds.Nodup
    ∧ s.permit.stationHolds.length ≤ 12
    ∧ (∀ h ∈ s.permit.stationHolds,
        (∃ r, h.holder = .station r) ∧ 1 ≤ h.reason ∧ h.reason ≤ 15)
    ∧ (s.phase = .running →
        (s.permit.selfHolds.pressSilent = true
            ↔ ∃ p, s.roleOf p = .press ∧ (s.ports.get p).state = .lost)
          ∧ (s.permit.selfHolds.powerWarn = true ↔ s.supply = .warning)
          ∧ ∀ y, s.permit.selfHolds.mouldCheck.get y = (s.bays.get y).mouldCheck)

/-! ### The laws of the shots, the recipes and the charge (spec files 01, 02 and 05) -/

/-- Whether the open shot of a bay names a recipe slot. -/
def State.names (s : State) (y : Bay) (i : Ix16) : Bool :=
  match s.slots.get y with
  | some sh => decide (sh.recipeSlot = i)
  | none => false

/-- R31: the in-use count of a slot is the number of open shots whose context names it. -/
def UseLaw (s : State) : Prop :=
  ∀ i, (s.recipes.get i).inUse
    = (if s.names .a i then 1 else 0) + (if s.names .b i then 1 else 0)

/-- R2, R4: an open shot stands in the slot of its bay, its mould and its recipe slot are the bay's,
and that slot is VALID with the number and the revision the context holds. -/
def ContextLaw (s : State) : Prop :=
  ∀ y sh, s.slots.get y = some sh →
    sh.bay = y
      ∧ (s.bays.get y).mouldId = sh.mouldId ∧ sh.mouldId ≠ 0
      ∧ (s.bays.get y).recipeSlot = some sh.recipeSlot
      ∧ (s.recipes.get sh.recipeSlot).revision = sh.recipeRevision
      ∧ ∃ r, s.recipeAt sh.recipeSlot = some r ∧ r.number = sh.recipeNumber

/-- R32, R33: a bound bay names a VALID recipe slot, and the two bays are not bound to one mould. -/
def BindLaw (s : State) : Prop :=
  (∀ y, (s.bays.get y).mouldId ≠ 0 →
      ∃ i r, (s.bays.get y).recipeSlot = some i ∧ s.recipeAt i = some r)
    ∧ ((s.bays.get .a).mouldId ≠ 0 → (s.bays.get .a).mouldId ≠ (s.bays.get .b).mouldId)

/-- R133: an ejection belongs to a shot in OPENED. -/
def EjectLaw (s : State) : Prop :=
  s.eject.state ≠ .idle →
    ∃ y sh, s.eject.bay = some y ∧ s.slots.get y = some sh ∧ sh.stage = .opened
      ∧ s.eject.serial = some sh.serial

/-- R94, R95: a pending weigh belongs to a shot in CHARGING whose list has room. -/
def WeighLaw (s : State) : Prop :=
  ∀ y, s.weigh.slot = .weigh y →
    ∃ sh r, s.slots.get y = some sh ∧ sh.stage = .charging ∧ s.shotRecipe sh = some r
      ∧ sh.pieces.length < r.maxPieces

/-- R103, R107: the pieces are numbered from 1 without a gap, the total is the sum of their nets, a
list holds no more pieces than the recipe allows, and a shot in CHARGED or later has its total
within the recipe's window. -/
def ChargeLaw (s : State) : Prop :=
  ∀ y sh r, s.slots.get y = some sh → s.shotRecipe sh = some r →
    sh.pieces.map Piece.number = (List.range sh.pieces.length).map (· + 1)
      ∧ sh.chargeTotal = (sh.pieces.map Piece.net).sum
      ∧ sh.pieces.length ≤ r.maxPieces
      ∧ (sh.stage ≠ .charging →
          (r.chargeTarget : Int) - r.tolLow ≤ sh.chargeTotal
            ∧ sh.chargeTotal ≤ (r.chargeTarget : Int) + r.tolHigh)

/-- The serials of the open shots, bay A first. -/
def State.openSerials (s : State) : List Nat :=
  (s.slots.get .a).toList.map Shot.serial ++ (s.slots.get .b).toList.map Shot.serial

/-- The serials of the shots that are open or on file. -/
def State.allSerials (s : State) : List Nat :=
  s.openSerials ++ s.history.slots.map fun r => r.shot.serial

/-- R11, R13: no two shots open or on file carry one serial, and every one of them lies below the
counter, which is UNSET only while there is none. -/
def SerialLaw (s : State) : Prop :=
  s.allSerials.Nodup
    ∧ match s.serial with
      | none => s.allSerials = []
      | some n => ∀ k ∈ s.allSerials, k < n

/-! ### The laws of the history store (spec file 08) -/

/-- R147 to R149, R159: at most 512 slots are used, the pending count is the number of records
pending export, filing numbers are distinct and at most the counter's, and pending records and open
shots together are at most 512. -/
def StoreLaw (s : State) : Prop :=
  s.history.slots.length ≤ 512
    ∧ s.history.pending = (s.history.slots.filter Record.isPending).length
    ∧ (s.history.slots.map Record.filingNo).Nodup
    ∧ (∀ r ∈ s.history.slots, r.filingNo ≤ s.history.filingCounter)
    ∧ s.history.pending + s.openShots ≤ 512

/-- R158: every record's verdict is the severity rule applied to its exception set, and a
disposition stands only on a record whose verdict is HOLD. -/
def VerdictLaw (s : State) : Prop :=
  ∀ r ∈ s.history.slots,
    r.verdict = verdictOf r.shot.exceptions ∧ (r.disposition.isSome = true → r.verdict = .hold)

/-- R160: while the part runs, the near-full flag is ARMED exactly below 448 pending records. -/
def ArmedLaw (s : State) : Prop :=
  s.phase = .running → (s.history.armed = true ↔ s.history.pending < 448)

/-! ### The laws of the ports (spec file 10) -/

/-- R182 to R185: a queue holds at most eight notices, the trigger level is 1, 2, 4 or 8, and the
subscription set is a set of subscribable codes in ascending order. -/
def PortLaw (s : State) : Prop :=
  ∀ p, (s.ports.get p).queue.length ≤ 8
    ∧ (s.ports.get p).trigger ∈ [1, 2, 4, 8]
    ∧ List.Sublist (s.ports.get p).subs subscribable

/-! ### The heat budget (spec file 03) -/

/-- R55: the power a zone's granted duty draws, in watts. -/
def State.drawn (s : State) (z : ZoneId) : Nat :=
  (s.heat.zones.get z).granted * s.cfg.ratings.get z / 1000

/-- R61: what holds at every reload. -/
def BudgetLaw (s : State) : Prop :=
  (ZoneId.all.map s.drawn).sum ≤ s.cfg.budget
    ∧ ∀ z, ((s.heat.zones.get z).state = .off ∨ (s.heat.zones.get z).state = .idle
              ∨ (s.heat.zones.get z).state = .fault ∨ s.supply = .warning) →
        (s.heat.zones.get z).granted = 0

end Sys2Proof.Machine
end

