-- ==== Sys2Proof/WellFormed.lean ====
section
/-!
DEFINITION. Which commands can arise at all: a request carries a number of parameter bytes that its
form allows (R178), and an UNKNOWN_CODE carries a code that the request table does not hold with at
most 60 parameter bytes (R176). Every other operand can take every value of its type.
-/

namespace Sys2Proof

/-- R178: the parameter length of a request is one its form allows. -/
def lengthFits (k : ReqKind) (n : Nat) : Bool :=
  match k with
  | .nop | .identify | .readNotice | .readCell | .closeRequest | .weighCancel | .tare | .park
  | .holdClear | .restart => n == 0
  | .subscribe => decide (1 ≤ n) && decide (n ≤ 9)
  | .portStatus => decide (n ≤ 6)
  | .readShot | .holdAdd | .holdRemove | .partTaken => n == 2
  | .readBay | .chargeBegin | .weighPiece | .removePiece | .chargeDone | .discardCharge
  | .ejectBegin | .ejectEnd | .bayUnbind | .mouldChecked | .shotAbort | .readZone | .zoneEnable
  | .zoneDisable | .recipeRead | .recipeErase | .readNode | .historyNext | .shuttleRequest
  | .shuttleDone | .areaEnter | .areaLeave | .forceLeave | .releaseApplied | .heatMode => n == 1
  | .historyFind | .dispositionSet => n == 5
  | .historyAck | .bayBind | .serialBase | .clockSet => n == 4
  | .reportPress => n == 1 || n == 3
  | .recipeWrite => n == 53
  | .configSet => decide (1 ≤ n) && decide (n ≤ 60)

/-- A command that can arise: its operands fit what the part can be sent. -/
def wellFormed (i : Instr) : Bool :=
  match requestOf i with
  | some (_, k, ps) => lengthFits k ps.length
  | none =>
    match i with
    | .unknownCode _ c ps => (ReqKind.ofCode c).isNone && decide (ps.length ≤ 60)
    | _ => true

end Sys2Proof
end

