-- ==== Sys2Proof/Certificates/Slice0/Obligations.lean ====
section
/-!
DEFINITION. The statements about the CP212, one `def Obligations.<Name> : Prop` each. A request is
spoken of where it can act: `Ready s p i` says that the part runs and that port p has routed the
request i to its owner. `Answers i s p t r` says that the command's next state is t with the reply r
placed on the port, and nothing else but the idle timer's conditions judged again; what those two
change, and what an ended grant brings (`AnswersEnding`), is itself a statement
(ResultsReachTheReplyBuffer). Notices stand in t as the operations that queue them, whose effect is
stated by NoticesReachTheirQueues.
-/

open Sys2Proof Sys2Proof.Machine

/-! ### The machine as a whole -/

/-- The front command of the queue is taken off and executed with the queue's rest; on an empty
queue the block idles, which is the model's choice (notes/assumptions/7). -/
def Obligations.StepRunsTheFrontCommand : Prop :=
  (∀ (s : State) (c : Instr) (rest : List Instr), s.pending = c :: rest →
      step s = exec c { s with pending := rest })
    ∧ ∀ s : State, s.pending = [] → step s = .next s

/-- No command stops the machine, and none touches the queue of commands that wait. -/
def Obligations.EveryCommandCompletes : Prop :=
  ∀ (c : Instr) (s : State), ∃ t, exec c s = .next t ∧ t.pending = s.pending

/-- R190, R192, R193: with MAIN absent, RESET asserted or a start in progress no request and no
event of a block acts. -/
def Obligations.NoBlockActsUntilTheStartEnds : Prop :=
  ∀ (c : Instr) (s : State), s.phase ≠ .running →
    ((∃ p k ps, requestOf c = some (p, k, ps)) ∨ c = .heatPeriod ∨ c = .idleTimerExpiry
      ∨ c = .roundBegin ∨ (∃ r, c = .pollReply r) ∨ c = .replyTimeout ∨ c = .weighTimerExpiry
      ∨ c = .ejectionTimerExpiry ∨ (∃ z, c = .heaterSwitchOff z) ∨ (∃ p, c = .resultReturn p)
      ∨ (∃ p, c = .noticeAge p) ∨ (∃ p, c = .silenceTimerExpiry p)) →
    exec c s = .next s

/-- R178, step 4, R66, R127: what `Answers` and `AnswersEnding` add to the state they name: the
reply is on its way back in the port's buffer, an idle timer whose conditions do not hold stands at
0, and a grant that ended promotes the waiter of an area that is then enterable, with AREA_GRANTED for
its station and nothing else on any port. RESULT_RETURN: the buffer goes from PROCESSING to READY with
the owner's result. -/
def Obligations.ResultsReachTheReplyBuffer : Prop :=
  (∀ (s : State) (p : PortId) (i : Instr) (r : Reply),
      (s.answer p i r).idleSettled
          = { s with ports := s.ports.set p { s.ports.get p with buffer := .processing i (some r) },
                     heat.idleTimer := if s.idleRuns then s.heat.idleTimer else 0 }
        ∧ ∀ q, q ≠ p → (s.answer p i r).ports.get q = s.ports.get q)
    ∧ (∀ (before s : State), ∃ ar po,
        s.settle before = { s with
          permit.areas := ar, ports := po
          heat.idleTimer :=
            if State.idleRuns { s with permit.areas := ar } then s.heat.idleTimer else 0 }
        ∧ (∀ r, PerArea.get ar r =
            match (s.permit.areas.get r).holder, (s.permit.areas.get r).waiter with
            | none, some u =>
              if s.permit.shuttleGrant = none
                  ∧ (before.permit.shuttleGrant ≠ none
                    ∨ (r = .press ∧ before.permit.closeGrant ≠ none))
                  ∧ (r = .press → s.permit.press = .open ∧ s.permit.closeGrant = none) then
                ⟨some u, none⟩
              else s.permit.areas.get r
            | _, _ => s.permit.areas.get r)
        ∧ (let granted := fun (t : State) (r : Area) =>
             match (s.permit.areas.get r).waiter with
             | some u => if PerArea.get ar r = s.permit.areas.get r then t
               else t.postRole u.role ⟨.areaGranted, none, none, areaCode r, 0⟩
             | none => t
           po = (granted (granted s .press) .load).ports))
    ∧ ∀ (s : State) (p : PortId) (i : Instr) (r : Reply), s.phase = .running →
      (s.ports.get p).buffer = .processing i (some r) →
      exec (.resultReturn p) s
        = .next { s with ports := s.ports.set p { s.ports.get p with buffer := .ready r },
                         heat.idleTimer := if s.idleRuns then s.heat.idleTimer else 0 }

/-! ### Notices (R182, R183) -/

/-- R183, R182: how a notice arrives at one queue: at fewer than 8, at a full queue that holds a
STATUS notice, or at a full queue that holds none; and which ports a notice for every port, for the
subscribed ports or for the port of one role reaches. Nothing else changes. -/
def Obligations.NoticesReachTheirQueues : Prop :=
  (∀ (q : Port) (n : Notice),
     (q.queue.length < 8 → q.receive n = { q with queue := q.queue ++ [⟨n, false⟩] })
       ∧ (∀ pre x post, q.queue.length = 8 → q.queue = pre ++ x :: post →
           x.notice.code.cls = .status → (∀ y ∈ pre, y.notice.code.cls ≠ .status) →
           q.receive n = { q with queue := pre ++ post ++ [⟨n, false⟩],
                                  flags.noticeLost.set := true })
       ∧ (q.queue.length = 8 → (∀ y ∈ q.queue, y.notice.code.cls ≠ .status) →
           q.receive n = { q with flags.noticeLost.set := true }))
    ∧ (∀ (s : State) (n : Notice), RolesLaw s →
       (∃ po, s.postAll n = { s with ports := po } ∧ ∀ q, po.get q = (s.ports.get q).receive n)
         ∧ (∃ po, s.postSubs n = { s with ports := po }
             ∧ ∀ q, po.get q = if n.code ∈ (s.ports.get q).subs then (s.ports.get q).receive n
                               else s.ports.get q)
         ∧ ∀ r, ∃ po, s.postRole r n = { s with ports := po }
             ∧ ∀ q, po.get q = if s.roleOf q = r then (s.ports.get q).receive n else s.ports.get q)

/-! ### Frames (R176 to R178) -/

/-- R177: FRAME_START: the status byte describes the port as it stands, a ready reply follows it,
and within a start the frame is answered SHORT_WAIT with both notice flags clear. -/
def Obligations.FrameStartsWithTheStatusByte : Prop :=
  ∀ (s : State) (p : PortId), (s.ports.get p).frame = none →
    (s.phase = .running → ∃ k b data,
        exec (.frameStart p) s = .next { s with
            ports :=
              s.ports.set p { s.ports.get p with frame := some ⟨k, b :: data, false, true⟩ } }
          ∧ b.toNat = (match k with | .idle => 0 | .ready => 1 | .shortWait => 2)
              + (if (s.ports.get p).queue = [] then 0 else 4)
              + (if (s.ports.get p).flags.noticeLost.set then 8 else 0)
          ∧ (match (s.ports.get p).buffer with
             | .idle => k = .idle ∧ data = []
             | .processing _ _ => k = .shortWait ∧ data = []
             | .ready r => k = .ready ∧ data = r.bytes))
      ∧ ∀ k, s.phase = .starting k →
          exec (.frameStart p) s = .next { s with
            ports := s.ports.set p
              { s.ports.get p with frame := some ⟨.shortWait, [0x02#8], false, false⟩ } }

/-- R176, R178, R187: FRAME_END of a valid frame that carries a request its role may send: the port
is ONLINE, its silence timer is restarted, a PRESS port that was LOST loses its PRESS_SILENT hold,
with HOLD_CHANGED, the buffer is PROCESSING with the request, which stands routed, ready for its owner,
and nothing else changes on any port. -/
def Obligations.ValidFrameRoutesItsRequest : Prop :=
  ∀ (s : State) (i : Instr) (p : PortId) (k : ReqKind) (ps fill : List Byte) (f : Frame),
    s.phase = .running → (s.ports.get p).frame = some f → f.judged = true → f.expired = false →
    f.kind ≠ .shortWait → requestOf i = some (p, k, ps) → wellFormed i = true →
    s.roleOf p ∈ k.roles → (frameOf k.code ps ++ fill).length ≤ 64 →
    ∃ t, exec (.frameEnd p (frameOf k.code ps ++ fill) 0) s = .next t
      ∧ Ready t p i
      ∧ (t.ports.get p).state = .online
      ∧ (t.ports.get p).timer
          = (if s.cfg.silence.get (s.roleOf p) = 0 then none
             else some (s.cfg.silence.get (s.roleOf p)))
      ∧ (t.ports.get p).frame = none
      ∧ t.permit.selfHolds.pressSilent
          = (if (s.ports.get p).state = .lost ∧ s.roleOf p = .press then false
             else s.permit.selfHolds.pressSilent)
      ∧ t.ports = (State.sends
          { s with ports := s.ports.set p { s.ports.get p with
              state := .online
              timer := if s.cfg.silence.get (s.roleOf p) = 0 then none
                else some (s.cfg.silence.get (s.roleOf p))
              frame := none
              buffer := .processing i none } }
          [sentIf ((s.ports.get p).state = .lost ∧ s.roleOf p = .press
              ∧ s.permit.selfHolds.pressSilent = true)
            [(.subscribed, ⟨.holdChanged, none, none, 2, t.holds.length⟩)]]).ports
      ∧ t = { s with ports := t.ports, heat.idleTimer := t.heat.idleTimer,
                     permit.selfHolds.pressSilent := t.permit.selfHolds.pressSilent }

/-- R178, steps 1 to 3: a valid frame with an unknown code, a request its role may not send, or a
parameter length that does not fit is answered at once, with UNKNOWN or PERMISSION set and reported as
raiseFlag does (BadFramesAreDiscarded); the event UNKNOWN_CODE does the same. R177, R187: a valid frame
that was answered SHORT_WAIT takes its port to ONLINE and restarts the silence timer, its buffer stays
as it is, and its request, whatever it is, is not taken. -/
def Obligations.ValidFrameRefusals : Prop :=
  ∀ (s : State) (p : PortId) (code : Byte) (ps fill : List Byte) (f : Frame),
    s.phase = .running → (s.ports.get p).frame = some f → f.judged = true → f.expired = false →
    ps.length ≤ 60 → (frameOf code ps ++ fill).length ≤ 64 →
    let back := (s.ports.get p).state = .lost ∧ s.roleOf p = .press
    let told := fun (t : State) (b : Buffer) => State.sends
      { s with ports := s.ports.set p { s.ports.get p with
          state := .online
          timer := if s.cfg.silence.get (s.roleOf p) = 0 then none
            else some (s.cfg.silence.get (s.roleOf p))
          frame := none
          buffer := b } }
      [sentIf (back ∧ s.permit.selfHolds.pressSilent = true)
        [(.subscribed, ⟨.holdChanged, none, none, 2, t.holds.length⟩)]]
    let refused := fun (t : State) (c : ResultCode) => told t (.ready ⟨c, []⟩)
    (∃ t, exec (.frameEnd p (frameOf code ps ++ fill) 0) s = .next t
      ∧ (t.ports.get p).state = .online
      ∧ t.permit.selfHolds.pressSilent
          = (if back then false else s.permit.selfHolds.pressSilent)
      ∧ t = { s with ports := t.ports, heat.idleTimer := t.heat.idleTimer,
                     permit.selfHolds.pressSilent := t.permit.selfHolds.pressSilent }
      ∧ (f.kind = .shortWait → t.ports = (told t (s.ports.get p).buffer).ports)
      ∧ (f.kind ≠ .shortWait →
        (ReqKind.ofCode code = none →
            (t.ports.get p).buffer = .ready ⟨.unknown, []⟩
              ∧ (t.ports.get p).flags.unknown.set = true
              ∧ t.ports = ((refused t .unknown).raiseFlag p .unknown).ports)
        ∧ ∀ k, ReqKind.ofCode code = some k →
            (s.roleOf p ∉ k.roles →
              (t.ports.get p).buffer = .ready ⟨.notPermitted, []⟩
                ∧ (t.ports.get p).flags.permission.set = true
                ∧ t.ports = ((refused t .notPermitted).raiseFlag p .permission).ports)
              ∧ (s.roleOf p ∈ k.roles → lengthFits k ps.length = false →
                  t.ports = (refused t .invalid).ports)))
      ∧ (ReqKind.ofCode code = none →
          exec (.unknownCode p code ps) s = exec (.frameEnd p (frameOf code ps) 0) s
            ∧ ∃ t, exec (.unknownCode p code ps) s = .next t
                ∧ (f.kind ≠ .shortWait → (t.ports.get p).buffer = .ready ⟨.unknown, []⟩
                  ∧ (t.ports.get p).flags.unknown.set = true))

/-- R176: the LENGTH and CHECK faults of an ended frame; FRAME_TIMEOUT: the frame is bad with LENGTH
at the expiry, the reply it was delivering is consumed, the rest of it is clocked with 00h going out,
and its end is then not judged again. A selection without a clock edge is no frame: neither its expiry
nor its end sets a flag, places a reply or takes one. That a frame whose first clock edge comes after
the expiry is bad with LENGTH at its end is the model's reading (notes/assumptions/25). R180: a flag
set by its condition, with its report. -/
def Obligations.BadFramesAreDiscarded : Prop :=
  (∀ (s : State) (p : PortId) (bytes : List Byte) (spare : Fin 8) (f : Frame),
     s.phase = .running → (s.ports.get p).frame = some f → f.judged = true → f.expired = false →
     (bytes ≠ [] ∨ spare ≠ 0) →
     ∀ n : FlagName,
       ((n = .length ∧ (spare ≠ 0 ∨ bytes.length < 3 ∨ 64 < bytes.length
           ∨ ∃ c l rest, bytes = c :: l :: rest ∧ (60 < l.toNat ∨ bytes.length < 3 + l.toNat)))
         ∨ (n = .check ∧ spare = 0 ∧ bytes.length ≤ 64 ∧ ∃ c ps x fill,
             bytes = c :: BitVec.ofNat 8 ps.length :: (ps ++ x :: fill) ∧ ps.length ≤ 60
               ∧ x ≠ crc8 (c :: BitVec.ofNat 8 ps.length :: ps))) →
       ∃ t, exec (.frameEnd p bytes spare) s = .next t
         ∧ ((t.ports.get p).flags.get n).set = true
         ∧ (t.ports.get p).state = (s.ports.get p).state
         ∧ (t.ports.get p).timer = (s.ports.get p).timer
         ∧ (t.ports.get p).frame = none
         ∧ (t.ports.get p).buffer
             = (if f.kind = .shortWait then (s.ports.get p).buffer else .ready ⟨.badFrame, []⟩)
         ∧ t = { s with ports := t.ports, heat.idleTimer := t.heat.idleTimer }
         ∧ t = State.idleSettled (State.raiseFlag { s with
             ports := s.ports.set p { s.ports.get p with
               frame := none
               buffer := if f.kind = .shortWait then (s.ports.get p).buffer
                 else .ready ⟨.badFrame, []⟩ } } p n))
    ∧ (∀ (s : State) (p : PortId) (f : Frame), s.phase = .running →
       (s.ports.get p).frame = some f → f.judged = true → f.expired = false →
       ∃ t, exec (.frameTimeout ⟨p, true⟩) s = .next t
         ∧ (t.ports.get p).flags.length.set = true
         ∧ (t.ports.get p).state = (s.ports.get p).state
         ∧ (t.ports.get p).timer = (s.ports.get p).timer
         ∧ (t.ports.get p).buffer
             = (if f.kind = .shortWait then (s.ports.get p).buffer else .ready ⟨.badFrame, []⟩)
         ∧ (∀ n, t.outByte p n = some 0x00#8)
         ∧ t = { s with ports := t.ports, heat.idleTimer := t.heat.idleTimer }
         ∧ (∀ q, q ≠ p → s.cfg.reportErrors = false → t.ports.get q = s.ports.get q)
         ∧ ∀ bytes spare, exec (.frameEnd p bytes spare) t = .next (t.setFrame p none))
    ∧ (∀ (s : State) (p : PortId) (f : Frame), s.phase = .running →
       (s.ports.get p).frame = some f → f.judged = true →
       exec (.frameEnd p [] 0) s = .next { s with
           ports := s.ports.set p { s.ports.get p with frame := none } }
         ∧ (f.expired = false → exec (.frameTimeout ⟨p, false⟩) s = .next (State.idleSettled { s with
             ports := s.ports.set p { s.ports.get p with
               frame := some { f with out := [], expired := true } } }))
         ∧ (f.expired = true → ∀ bytes spare, (bytes ≠ [] ∨ spare ≠ 0) →
             exec (.frameEnd p bytes spare) s = .next (State.idleSettled (State.raiseFlag { s with
               ports := s.ports.set p { s.ports.get p with
                 frame := none
                 buffer := if f.kind = .shortWait then (s.ports.get p).buffer
                   else .ready ⟨.badFrame, []⟩ } } p .length))))
    ∧ ∀ (s : State) (p : PortId) (n : FlagName), n ≠ .noticeLost →
      (((s.ports.get p).flags.get n).set = true → s.raiseFlag p n = s)
      ∧ (((s.ports.get p).flags.get n).set = false → ∃ fl : ErrorFlags,
          (fl.get n = ⟨true, s.cfg.reportErrors⟩
            ∧ ∀ m, m ≠ n → fl.get m = (s.ports.get p).flags.get m)
          ∧ let marked : State :=
              { s with ports := s.ports.set p { s.ports.get p with flags := fl } }
            s.raiseFlag p n = if s.cfg.reportErrors then
              marked.postRole .line ⟨.portError, none, none, p.toNat,
                match n with
                | .check => 1 | .length => 2 | .unknown => 3 | .permission => 4
                | .noticeLost => 5⟩
              else marked)

/-- R26, R176, R178: the parameters and the frame of every well-formed request are read back to that
request, whatever fill follows the check; and what the parameters of a request read to spells those
parameters again. -/
def Obligations.RequestRoundTrip : Prop :=
  (∀ (i : Instr) (p : PortId) (k : ReqKind) (ps : List Byte),
      requestOf i = some (p, k, ps) → wellFormed i = true →
      ReqKind.ofCode k.code = some k ∧ k.parse p ps = some i
        ∧ ∀ fill, (frameOf k.code ps ++ fill).length ≤ 64 →
            judgeFrame (frameOf k.code ps ++ fill) 0 = .valid k.code ps)
    ∧ ∀ (p : PortId) (k : ReqKind) (ps : List Byte) (i : Instr), ps.length ≤ 60 →
        k.parse p ps = some i → requestOf i = some (p, k, ps) ∧ wellFormed i = true

/-! ### The requests of the port block -/

/-- The requests that the manual says change no state give a reply and leave everything else; and
what each of these replies carries, item by item (R188, R24, R39, R71, R131, R30, R153, R155, R156,
R172). What the items look like as bytes is free (notes/assumptions/2); where a rule leaves the order of a
reply's items open, the order here is the model's choice (notes/assumptions/19). That a page or part out
of range answers INVALID where the store or the slot is empty or carries no such serial, too, is the
model's choice (notes/assumptions/27). -/
def Obligations.ReadsReportAndChangeNothing : Prop :=
  (∀ (s : State) (p : PortId) (i : Instr), Ready s p i →
     (i = .nop p ∨ i = .identify p ∨ i = .readCell p ∨ (∃ a b, i = .readShot p a b)
       ∨ (∃ a, i = .readBay p a) ∨ (∃ a, i = .readZone p a) ∨ (∃ a, i = .recipeRead p a)
       ∨ (∃ n a, i = .historyFind p n a) ∨ (∃ a, i = .historyNext p a)
       ∨ (∃ a, i = .readNode p a)) →
     ∃ r, TurnsAway i s p r)
    ∧ (∀ (s : State) (p : PortId),
       (Ready s p (.nop p) → TurnsAway (.nop p) s p ⟨.ok, []⟩)
         ∧ (Ready s p (.identify p) → TurnsAway (.identify p) s p
             ⟨.ok, [.num 0x52B4, .num 0x0212, .num 3, .num p.toNat, .num (roleCode (s.roleOf p)),
               .flag s.cfg.isDefault, .flag s.cfg.tableDefault, .flag s.cfg.locked,
               .flag s.clock.derived, .flag s.clock.uncertain,
               .serialState (match s.serial with
                 | none => .unset
                 | some n => if n = 4294967295 then .exhausted else .ready)]⟩)
         ∧ (∀ a b y, Ready s p (.readShot p a b) → bayOf a = some y → b.toNat ≤ 2 →
             s.slots.get y = none → TurnsAway (.readShot p a b) s p ⟨.ok, [.num 0]⟩)
         ∧ (∀ a b, Ready s p (.readShot p a b) → (bayOf a = none ∨ 2 < b.toNat) →
             TurnsAway (.readShot p a b) s p ⟨.invalid, []⟩)
         ∧ (∀ a, Ready s p (.historyNext p a) → a.toNat ≤ 4 → s.history.head = none →
             TurnsAway (.historyNext p a) s p ⟨.empty, [.num s.history.pending]⟩)
         ∧ (∀ a j r, Ready s p (.historyNext p a) → a.toNat ≤ 4 → s.history.head = some (j, r) →
             TurnsAway (.historyNext p a) s p
               ⟨.ok, .num r.shot.serial :: .num r.filingNo :: .num s.history.pending
                 :: r.page j a.toNat⟩)
         ∧ (∀ n a, Ready s p (.historyFind p n a) → a.toNat ≤ 4 →
             (∀ r ∈ s.history.slots, r.shot.serial ≠ n.toNat) →
             TurnsAway (.historyFind p n a) s p ⟨.notFound, []⟩)
         ∧ ∀ a, Ready s p (.readNode p a) → (a = 0#8 ∨ 16 < a.toNat) →
             TurnsAway (.readNode p a) s p ⟨.invalid, []⟩)
    ∧ (let stamp := fun t : Timestamp => [Field.num t.time.toNat, Field.flag t.uncertain]
       let stamps := fun o : Option Timestamp => match o with
         | some t => stamp t
         | none => [Field.absent, Field.absent]
       let pieces := fun l : List Piece =>
         l.flatMap fun x => [Field.num x.number, Field.num x.net] ++ stamp x.captured
       let codes := fun es : List Exc => es.map fun e => Field.num e.number
       let verdict := fun v : Verdict => Field.num (match v with
         | .accept => 0 | .hold => 1 | .reject => 2)
       let times := fun sh : Shot => stamp sh.openedAt ++ stamps sh.chargedAt ++ stamps sh.closedAt
         ++ stamps sh.curedAt ++ stamps sh.pressOpenedAt ++ stamps sh.ejectedAt
       (∀ (s : State) (p : PortId) (a b : Byte) (y : Bay) (sh : Shot), Ready s p (.readShot p a b) →
         bayOf a = some y → s.slots.get y = some sh →
         (b = 0#8 → TurnsAway (.readShot p a b) s p ⟨.ok,
             ([.num sh.serial, .num sh.stage.code, .num sh.recipeSlot.toNat, .num sh.recipeNumber,
               .num sh.recipeRevision, .num sh.mouldId, .num sh.pieces.length,
               .num sh.chargeTotal, .num sh.discards, .num sh.dose, .num sh.closedDuration,
               Field.optInt sh.minCureTemp, Field.optInt sh.maxZoneTemp,
               Field.optNat sh.pressPeak, Field.optNat sh.demouldPeak] : List Field)
               ++ codes sh.exceptions ++ [verdict (verdictOf sh.exceptions)]⟩)
           ∧ (b = 1#8 → TurnsAway (.readShot p a b) s p ⟨.ok, pieces sh.pieces⟩)
           ∧ (b = 2#8 → TurnsAway (.readShot p a b) s p ⟨.ok, times sh⟩))
       ∧ (∀ (r : Record) (j : Nat),
         r.page j 0 = ([.num r.shot.serial, .num r.filingNo, .num j, .bay r.shot.bay,
             .num r.shot.mouldId, .num r.shot.recipeSlot.toNat, .num r.shot.recipeNumber,
             .num r.shot.recipeRevision,
             .num (match r.outcome with | .completed => 0 | .aborted => 1 | .interrupted => 2),
             .num r.shot.stage.code, verdict r.verdict,
             .num (match r.disposition with
               | none => 0 | some .accepted => 1 | some .rejected => 2)] : List Field)
             ++ stamps r.dispositionAt
             ++ ([.num (if r.exported then 1 else 0), .flag r.amended] : List Field)
             ++ codes r.shot.exceptions
           ∧ r.page j 1 = times r.shot
           ∧ r.page j 2 = ([.num r.shot.pieces.length, .num r.shot.chargeTotal,
               .num r.shot.discards] : List Field) ++ pieces (r.shot.pieces.take 4)
           ∧ r.page j 3 = pieces (r.shot.pieces.drop 4)
           ∧ r.page j 4 = [.num r.shot.dose, .num r.shot.closedDuration,
               Field.optInt r.shot.minCureTemp, Field.optInt r.shot.maxZoneTemp,
               Field.optNat r.shot.pressPeak, Field.optNat r.shot.demouldPeak]))
    ∧ (∀ (s : State) (p : PortId) (n : BitVec 32) (a : Byte), Ready s p (.historyFind p n a) →
       (4 < a.toNat → TurnsAway (.historyFind p n a) s p ⟨.invalid, []⟩)
         ∧ ∀ j r, a.toNat ≤ 4 → s.history.slots[j]? = some r → r.shot.serial = n.toNat →
             (∀ x ∈ s.history.slots.take j, x.shot.serial ≠ n.toNat) →
             TurnsAway (.historyFind p n a) s p ⟨.ok, .num r.filingNo :: r.page j a.toNat⟩)
    ∧ (∀ (s : State) (p : PortId) (a : Byte), Ready s p (.historyNext p a) → 4 < a.toNat →
       TurnsAway (.historyNext p a) s p ⟨.invalid, []⟩)
    ∧ (let stage := fun o : Option Stage => Field.num (match o with
         | none => 0 | some .charging => 1 | some .charged => 2 | some .closed => 3
         | some .cured => 4 | some .opened => 5 | some .ejected => 6)
       (∀ (s : State) (p : PortId) (a : Byte), Ready s p (.readBay p a) →
         (bayOf a = none → TurnsAway (.readBay p a) s p ⟨.invalid, []⟩)
           ∧ ∀ y, bayOf a = some y → TurnsAway (.readBay p a) s p ⟨.ok,
               ([.num (s.bays.get y).mouldId,
                 Field.optNat ((s.bays.get y).recipeSlot.map Ix16.toNat),
                 .num (s.bays.get y).shotsOnBinding, .num (s.bays.get y).lowerCount,
                 .flag (s.bays.get y).mouldCheck] : List Field)
                 ++ (match s.bayRecipe y, (s.bays.get y).recipeSlot with
                   | some r, some i => [.num r.number, .num (s.recipes.get i).revision,
                       .num r.lowerInterval,
                       .flag (decide (r.lowerInterval ≠ 0
                         ∧ r.lowerInterval ≤ (s.bays.get y).lowerCount))]
                   | _, _ => [])
                 ++ ([.place (if s.permit.position = Position.ofIn y then .isIn
                   else if s.permit.position = Position.ofIn y.other then .isOut else .neither),
                   .num s.upperCount] : List Field)
                 ++ (match s.permit.position.inBay.bind s.bayRecipe with
                   | some r => [.num r.upperInterval,
                       .flag (decide (r.upperInterval ≠ 0 ∧ r.upperInterval ≤ s.upperCount))]
                   | none => [.absent, .flag false])
                 ++ [stage (s.shotStage y)]⟩)
       ∧ ∀ (s : State) (p : PortId), Ready s p (.readCell p) →
         TurnsAway (.readCell p) s p ⟨.ok,
           ([.num s.permit.press.code, .num s.permit.position.code,
             Field.optBay s.permit.closeGrant, Field.optBay s.permit.shuttleGrant,
             .flag s.permit.closeGrant.isSome, .flag s.permit.shuttleGrant.isSome,
             .flag (decide (s.eject.state = .active)), .num s.heat.mode.code,
             .flag s.heat.parkPending, stage (s.shotStage .a), stage (s.shotStage .b),
             Field.optBay s.permit.position.inBay, Field.optBay s.permit.position.outBay,
             .flag s.upperDue, .num s.holds.length] : List Field)
             ++ s.holds.flatMap (fun h => [.holder h.holder, .scope h.scope, .num h.reason])
             ++ ([.area (s.permit.areas.get .press).holder, .area (s.permit.areas.get .press).waiter,
               .flag (decide (s.permit.press = .open ∧ s.permit.closeGrant = none
                 ∧ s.permit.shuttleGrant = none)),
               .area (s.permit.areas.get .load).holder, .area (s.permit.areas.get .load).waiter,
               .flag (decide (s.permit.shuttleGrant = none))] : List Field)⟩)
    ∧ (∀ (s : State) (p : PortId) (a : Byte), Ready s p (.readZone p a) →
       (∀ z : ZoneId, z.number = a.toNat →
          let x := s.heat.zones.get z
          TurnsAway (.readZone p a) s p ⟨.ok,
            [.zoneState x.state, .flag x.enabled, .zoneUpper (decide (z.grp = .upper)),
              .num (s.cfg.ratings.get z), Field.optBay (s.zoneSource z), Field.optInt x.target,
              Field.optInt x.effective, .num x.rampAcc, Field.optInt x.latest,
              .flag x.validNow, .num x.invalidCount, .num x.validCount, .num x.integrator,
              .num x.requested, .num x.granted, .flag x.limited, .flag x.atTemp,
              .budgetClass (match z.grp with
                | .upper => true
                | .bayA => decide (s.permit.position = .aIn)
                | .bayB => decide (s.permit.position = .bIn))]⟩)
         ∧ (11 < a.toNat →
          let count := fun st : ZoneState => Field.num
            (ZoneId.all.filter fun z => (s.heat.zones.get z).state == st).length
          TurnsAway (.readZone p a) s p ⟨.ok,
            ([.num s.heat.mode.code, .flag s.heat.parkPending, .num s.heat.idleTimer,
              .flag s.idleRuns, .num s.cfg.budget, .num s.heat.sum1, .num s.heat.sum2,
              .num s.heat.totalGranted, count .off, count .idle, count .ramp, count .regulate,
              count .fault] : List Field)
              ++ ZoneId.all.map fun z => .flag (s.heat.zones.get z).atTemp⟩))
    ∧ (∀ (s : State) (p : PortId) (a : Byte), Ready s p (.recipeRead p a) →
       (15 < a.toNat → TurnsAway (.recipeRead p a) s p ⟨.invalid, []⟩)
         ∧ ∀ i : Ix16, i.toNat = a.toNat →
           ((s.recipes.get i).recipe = none →
               TurnsAway (.recipeRead p a) s p
                 ⟨.ok, [.flag false, .num (s.recipes.get i).revision]⟩)
             ∧ ∀ r, (s.recipes.get i).recipe = some r →
               let bound := fun y => decide ((s.bays.get y).mouldId ≠ 0
                 ∧ (s.bays.get y).recipeSlot = some i)
               TurnsAway (.recipeRead p a) s p ⟨.ok,
                 ([.flag true, .num (s.recipes.get i).revision, .num r.number] : List Field)
                   ++ r.upper.toList.map .num ++ r.mould.toList.map .num
                   ++ ([.num r.readyBand, .num r.overTemp, .num r.cureRef, .num r.cureTarget,
                     .num r.minClosed, .num r.maxClosed, .num r.overstay, .num r.chargeTarget,
                     .num r.tolLow, .num r.tolHigh, .num r.maxPieces, .num r.minPressForce,
                     .num r.demouldLimit, .num r.abortLimit, .num r.ejectTimeout,
                     .num r.lowerInterval, .num r.upperInterval, .num (s.recipes.get i).inUse,
                     .flag (bound .a), .flag (bound .b)] : List Field)⟩)
    ∧ ∀ (s : State) (p : PortId) (a : Byte) (n : Ix16), Ready s p (.readNode p a) →
      n.toNat + 1 = a.toNat →
      let x := s.sensor.nodes.get n
      TurnsAway (.readNode p a) s p ⟨.ok,
        ([.nodeKind (s.cfg.nodeKinds.get n),
          .num (match x.state with | .unused => 0 | .waiting => 1 | .ok => 2 | .missing => 3),
          .num x.misses,
          (match x.lastMiss with
            | none => .absent | some .timeout => .num 1 | some .check => .num 2
            | some .wrongNode => .num 3)] : List Field)
          ++ (if s.cfg.nodeKinds.get n = .temp then
            x.channels.toList.flatMap fun c =>
              (match c.latest with
                | some v => [.num v.value, .tempStatus v.status]
                | none => [.absent, .absent]) ++ ([.flag c.fresh] : List Field)
            else [])⟩

/-- R184: READ NOTICE removes the oldest notice of the highest class present and returns it with the
number of notices left. R186: ATTN is asserted exactly while an ALARM is queued, the queue is at its
trigger level, or its oldest notice has reached 100 ms, which NOTICE_AGE marks (notes/assumptions/4), so
it falls when none of the three holds. -/
def Obligations.NoticesAreReadByClassAndRaiseAttention : Prop :=
  (∀ (s : State) (p : PortId), Ready s p (.readNotice p) →
     ((s.ports.get p).queue = [] → TurnsAway (.readNotice p) s p ⟨.empty, [.num 0]⟩)
       ∧ ∀ pre x post, (s.ports.get p).queue = pre ++ x :: post →
           (∀ y ∈ pre ++ post, x.notice.code.cls.code ≤ y.notice.code.cls.code) →
           (∀ y ∈ pre, y.notice.code.cls ≠ x.notice.code.cls) →
           Answers (.readNotice p) s p
             { s with ports := s.ports.set p { s.ports.get p with queue := pre ++ post } }
             ⟨.ok, [.num x.notice.code.cls.code, .num x.notice.code.number,
               Field.optBay x.notice.bay, Field.optNat x.notice.serial, .num x.notice.v1,
               .num x.notice.v2, .num (pre ++ post).length]⟩)
    ∧ (∀ (s : State) (p : PortId) (x : Queued) (rest : List Queued), s.phase = .running →
       (s.ports.get p).queue = x :: rest → x.aged = false →
       ∃ t, exec (.noticeAge p) s = .next t
         ∧ t = { s with
                   ports := s.ports.set p
                     { s.ports.get p with queue := { x with aged := true } :: rest }
                   heat.idleTimer := if s.idleRuns then s.heat.idleTimer else 0 }
         ∧ t.attn p = true)
    ∧ ∀ (s : State) (p : PortId), s.attn p = true ↔ (s.phase = .running
       ∧ ((∃ x ∈ (s.ports.get p).queue, x.notice.code.cls = .alarm)
         ∨ (s.ports.get p).trigger ≤ (s.ports.get p).queue.length
         ∨ ∃ x rest, (s.ports.get p).queue = x :: rest ∧ x.aged = true))

/-- R185: SUBSCRIBE makes the set exactly the codes listed, and an inadmissible level or code leaves
set and level as they were. That the reply carries the level before the set is the model's choice
(notes/assumptions/19). -/
def Obligations.SubscribeReplacesTheSet : Prop :=
  ∀ (s : State) (p : PortId) (level : Byte) (codes : List Byte),
    Ready s p (.subscribe p level codes) →
    ((level.toNat ∈ [1, 2, 4, 8] ∧ ∀ c ∈ codes, 32 ≤ c.toNat ∧ c.toNat ≤ 39) →
        ∃ subs, Answers (.subscribe p level codes) s p
            { s with
                ports := s.ports.set p { s.ports.get p with subs := subs, trigger := level.toNat } }
            ⟨.ok, .num level.toNat :: subs.map fun c => .num c.number⟩
          ∧ subs.Nodup
          ∧ ∀ c : NoticeCode, c ∈ subs ↔ ∃ b ∈ codes, b.toNat = c.number)
      ∧ ((level.toNat ∉ [1, 2, 4, 8] ∨ ∃ c ∈ codes, c.toNat < 32 ∨ 39 < c.toNat) →
          TurnsAway (.subscribe p level codes) s p ⟨.invalid, []⟩)

/-- R181: PORT STATUS reports the named port as it stood and then clears the flags listed; a role
other than LINE may name its own port only. The report is the role, the port state, the notice count,
the trigger level, and each flag with its reported indication; that the flags come by ascending code is
the model's choice (notes/assumptions/19). A port or a code that is not admissible answers INVALID and
sets no flag; that it does so too where a role other than LINE names another port beside it is the
model's choice (notes/assumptions/24). -/
def Obligations.PortStatusReportsThenClears : Prop :=
  ∀ (s : State) (p : PortId),
    let report : PortId → Reply := fun t =>
      let q := s.ports.get t
      let flag := fun x : ErrorFlag => [Field.flag x.set, Field.flag x.reported]
      ⟨.ok, ([.num (match s.roleOf t with
            | .press => 1 | .loader => 2 | .extract => 3 | .line => 4),
          .num (match q.state with | .offline => 0 | .online => 1 | .lost => 2),
          .num q.queue.length, .num q.trigger] : List Field)
        ++ flag q.flags.check ++ flag q.flags.length ++ flag q.flags.unknown
        ++ flag q.flags.permission ++ flag q.flags.noticeLost⟩
    (Ready s p (.portStatus p none) →
        TurnsAway (.portStatus p none) s p (report p))
      ∧ (∀ t port (codes : List Byte) (ns : List FlagName),
          Ready s p (.portStatus p (some (port, codes))) →
          Ix4.ofNat? port.toNat = some t → codes.map FlagName.ofCode = ns.map some →
          (t = p ∨ s.roleOf p = .line) →
          ∃ fl, Answers (.portStatus p (some (port, codes))) s p
              { s with ports := s.ports.set t { s.ports.get t with flags := fl } }
              (report t)
            ∧ ∀ n, fl.get n = if n ∈ ns then ⟨false, false⟩ else (s.ports.get t).flags.get n)
      ∧ (∀ t port (codes : List Byte) (ns : List FlagName),
          Ready s p (.portStatus p (some (port, codes))) →
          Ix4.ofNat? port.toNat = some t → codes.map FlagName.ofCode = ns.map some →
          t ≠ p → s.roleOf p ≠ .line →
          Answers (.portStatus p (some (port, codes))) s p (s.raiseFlag p .permission)
            ⟨.notPermitted, []⟩)
      ∧ ∀ port (codes : List Byte), Ready s p (.portStatus p (some (port, codes))) →
          (3 < port.toNat ∨ ∃ c ∈ codes, c.toNat = 0 ∨ 5 < c.toNat) →
          TurnsAway (.portStatus p (some (port, codes))) s p ⟨.invalid, []⟩

/-- R182 to R185: no command takes a port outside the port law. -/
def Obligations.PortLawIsKept : Prop :=
  ∀ (s t : State), PortLaw s → step s = .next t → PortLaw t

/-! ### Reset and starts (spec file 11) -/

/-- The state right after reset meets every law stated below as kept. That state is the model's
choice of a start (notes/assumptions/1). -/
def Obligations.ResetMeetsEveryLaw : Prop :=
  RolesLaw State.reset ∧ ShuttleLaw State.reset ∧ CloseLaw State.reset ∧ AreaLaw State.reset
    ∧ HoldLaw State.reset ∧ UseLaw State.reset ∧ ContextLaw State.reset ∧ EjectLaw State.reset
    ∧ WeighLaw State.reset ∧ ChargeLaw State.reset ∧ SerialLaw State.reset ∧ StoreLaw State.reset
    ∧ VerdictLaw State.reset ∧ BindLaw State.reset ∧ ArmedLaw State.reset ∧ PortLaw State.reset
    ∧ BudgetLaw State.reset

/-- R190, R193, R197: the end of a cold start, every field written out: the retained items at their
cold values, every other item at its value after any start, and the start notices on every port.
That the detector is reset at this event, and not before, is the model's (notes/assumptions/14), and
so is that each port keeps its frame (notes/assumptions/12). R182: a value that R193 does not name
is 0. R194, R74, R165, R175: the configuration the image gives: an unreadable or bad image, the
entries of a good one in their order, what the data of each tag store, and the maps that are kept.
That the CRC-16 of R194 runs as crc16 does is the model's (notes/assumptions/5), and so is which
malformed entry takes its tag, and that the maps are discarded entry by entry
(notes/assumptions/15). -/
def Obligations.ColdStartBeginsFromNothing : Prop :=
  (∀ (s : State) (image : List Byte), s.phase = .starting .cold →
    exec (.configLoadEnd image) s = .next {
      pending := s.pending
      phase := .running
      pins := s.pins
      retainTripped := false
      supply := if s.pins.pfwarn then .warning else .normal
      clock := ⟨0#32, !s.pins.clk32, true⟩
      lastHeat := ⟨.off, false⟩
      cfg := loadImage image
      ports := Quad.ofFn fun p =>
        { Port.start ((loadImage image).roles.get p) with
          frame := (s.ports.get p).frame
          queue := [⟨⟨.retainLost, none, none, 0, 0⟩, false⟩, ⟨⟨.started, none, none, 1, 3⟩, false⟩]
            ++ (if s.pins.pfwarn then [⟨⟨.powerWarn, none, none, 0, 0⟩, false⟩] else []) }
      slots := ⟨none, none⟩
      serial := none
      recipes := Hex.all ⟨none, 0, 0⟩
      bays := ⟨⟨0, none, 0, 0, false⟩, ⟨0, none, 0, 0, false⟩⟩
      upperCount := 0
      heat := Heat.start (loadImage image).enabledAtStart
      cureMarks := ⟨none, none⟩
      channels := ⟨⟨[], 0⟩, ⟨[], 0⟩, ⟨[], 0⟩⟩
      weigh := ⟨.none, none, 0⟩
      permit := { Permit.start with selfHolds := ⟨false, s.pins.pfwarn, ⟨false, false⟩⟩ }
      eject := Eject.start
      history := ⟨[], 0, 0, true⟩
      sensor := Sensor.start (loadImage image).nodeKinds })
    ∧ (∀ image : List Byte, image.length < 8 →
       loadImage image = { Cfg.defaults with isDefault := true })
    ∧ (∀ (m0 m1 format lock l0 l1 c0 c1 : Byte) (rest : List Byte),
       let n := 256 * l0.toNat + l1.toNat
       (m0 ≠ 0x52#8 ∨ m1 ≠ 0xB4#8 ∨ format ≠ 1#8 ∨ (lock ≠ 0#8 ∧ lock ≠ 1#8) ∨ 4088 < n
         ∨ rest.length < n ∨ (crc16 (rest.take n)).toNat ≠ 256 * c0.toNat + c1.toNat) →
       loadImage (m0 :: m1 :: format :: lock :: l0 :: l1 :: c0 :: c1 :: rest)
         = { Cfg.defaults with isDefault := true })
    ∧ (∀ (entries : List (Byte × List Byte)) (tail more : List Byte) (lock l0 l1 c0 c1 : Byte),
       (∀ e ∈ entries, e.2.length ≤ 255) →
       (tail.length < 2 ∨ ∃ tag len l, tail = tag :: len :: l ∧ l.length < len.toNat) →
       (lock = 0#8 ∨ lock = 1#8) →
       let area := entries.flatMap (fun e => e.1 :: BitVec.ofNat 8 e.2.length :: e.2) ++ tail
       area.length ≤ 4088 → 256 * l0.toNat + l1.toNat = area.length →
       256 * c0.toNat + c1.toNat = (crc16 area).toNat →
       let read : Cfg × List Byte := entries.foldl
         (fun x e => if e.1 ∈ x.2 then x else
           match (imageItem e.1 e.2).map x.1.store with
           | some c => (c, e.1 :: x.2)
           | none => x)
         ({ Cfg.defaults with locked := decide (lock = 1#8) }, [])
       ∃ zones : Zones (Option ZoneSource), ∃ loads : PerChan (Option Ix16),
         loadImage ([0x52#8, 0xB4#8, 1#8, lock, l0, l1, c0, c1] ++ area ++ more)
           = { read.1 with zoneMap := zones, loadMap := loads }
         ∧ (∀ z x, zones.get z = some x ↔ (read.1.zoneMap.get z = some x
             ∧ read.1.nodeKinds.get x.node = .temp
             ∧ ∀ y : ZoneId, y.number < z.number → zones.get y ≠ some x))
         ∧ (let kept := fun (m : Option Ix16) (earlier : List (Option Ix16)) => match m with
              | none => none
              | some n =>
                if read.1.nodeKinds.get n = .load ∧ some n ∉ earlier then some n else none
            loads.w = kept read.1.loadMap.w [] ∧ loads.fa = kept read.1.loadMap.fa [loads.w]
              ∧ loads.fb = kept read.1.loadMap.fb [loads.w, loads.fa]))
    ∧ ∀ (c : Cfg) (d : List Byte),
      let b := fun i => (d.getD i 0#8).toNat
      let u := fun i => 256 * b i + b (i + 1)
      let s16 := fun i => if u i < 32768 then (u i : Int) else (u i : Int) - 65536
      let s24 := fun i => if b i < 128 then (256 * u i + b (i + 2) : Int)
        else (256 * u i + b (i + 2) : Int) - 16777216
      let stored := fun tag => (imageItem tag d).map c.store
      (∀ tag : Byte, tag ≠ 0x20#8 → (tag.toNat, d.length) ∉
          [(0x01, 4), (0x02, 8), (0x03, 1), (0x04, 1), (0x10, 24), (0x11, 4), (0x12, 8), (0x13, 2),
            (0x14, 4), (0x15, 2), (0x16, 1), (0x17, 2), (0x18, 1), (0x30, 16), (0x31, 24),
            (0x32, 3), (0x33, 1), (0x40, 21), (0x41, 6), (0x42, 1), (0x43, 4), (0x44, 4)] →
          stored tag = none)
        ∧ (d.length = 4 → ∀ r : PerPort Role, (∀ p, b p.toNat = roleCode (r.get p)) →
            ((∀ p q, r.get p = r.get q → p = q) → stored 0x01#8 = some { c with roles := r })
              ∧ ((∃ p q, p ≠ q ∧ r.get p = r.get q) → stored 0x01#8 = some c))
        ∧ (d.length = 4 → (∃ p : PortId, b p.toNat < 1 ∨ 4 < b p.toNat) → stored 0x01#8 = some c)
        ∧ (d.length = 8 →
            let limit := fun i => if u i = 0 then 0 else max 100 (min 60000 (u i))
            stored 0x02#8 = some { c with silence := ⟨limit 0, limit 2, limit 4, limit 6⟩ }
              ∧ stored 0x12#8
                = some { c with upperGains := ⟨u 0, u 2⟩, mouldGains := ⟨u 4, u 6⟩ })
        ∧ (d.length = 1 →
            stored 0x03#8 = some { c with frameTimeout := max 1 (min 100 (b 0)) }
              ∧ stored 0x04#8 = (match b 0 with
                | 0 => some { c with reportErrors := false }
                | 1 => some { c with reportErrors := true }
                | _ => none)
              ∧ stored 0x16#8 = some { c with idleLimit := min 240 (b 0) }
              ∧ stored 0x18#8 = (match b 0 with
                | 0 => some { c with recovery := .off }
                | 1 => some { c with recovery := .setback }
                | 2 => some { c with recovery := .previous }
                | _ => none)
              ∧ stored 0x33#8 = some { c with replyTimeout := max 1 (min 32 (b 0)) }
              ∧ stored 0x42#8 = some { c with weighTimeout := max 1 (min 30 (b 0)) })
        ∧ (d.length = 24 →
            stored 0x10#8
                = some { c with ratings := Zones.ofFn fun z => min 20000 (u (2 * z.number)) }
              ∧ ∃ m : Zones (Option ZoneSource), stored 0x31#8 = some { c with zoneMap := m }
                ∧ ∀ z n i, m.get z = some ⟨n, i⟩
                    ↔ (n.toNat + 1 = b (2 * z.number) ∧ i.toNat = b (2 * z.number + 1)))
        ∧ (d.length = 4 →
            stored 0x11#8 = some { c with budget := min 200000 (65536 * u 0 + u 2) }
              ∧ stored 0x14#8 = some { c with
                  setbackUpper := max 0 (min 4000 (s16 0))
                  setbackMould := max 0 (min 4000 (s16 2)) }
              ∧ stored 0x43#8
                = some { c with capacity := (max 1 (min 99999 (65536 * u 0 + u 2)) : Nat) }
              ∧ stored 0x44#8
                = some { c with minPiece := (min 99999 (65536 * u 0 + u 2) : Nat) })
        ∧ (d.length = 2 →
            stored 0x13#8 = some { c with rampLimit := min 1000 (u 0) }
              ∧ stored 0x15#8 = some { c with cutback := max 0 (min 4500 (s16 0)) }
              ∧ stored 0x17#8 = some { c with
                  enabledAtStart := Zones.ofFn fun z => decide (u 0 / 2 ^ z.number % 2 = 1) })
        ∧ (let good := d.length = 32 ∧ (∀ i : Ix16, u (2 * i.toNat) ≤ 4095)
             ∧ ∀ i : Nat, i < 15 → u (2 * i) ≤ u (2 * (i + 1))
           (good → stored 0x20#8
              = some { c with rateTable := Hex.ofFn fun i => u (2 * i.toNat) })
             ∧ (¬good → stored 0x20#8 = some { c with tableDefault := true }))
        ∧ (d.length = 16 →
            ((∀ n : Ix16, b n.toNat ≤ 2) → stored 0x30#8 = some { c with
                nodeKinds := Hex.ofFn fun n => match b n.toNat with
                  | 0 => .unused | 1 => .temp | _ => .load })
              ∧ ((∃ n : Ix16, 2 < b n.toNat) → stored 0x30#8 = none))
        ∧ (d.length = 3 → ∃ m : PerChan (Option Ix16), stored 0x32#8 = some { c with loadMap := m }
            ∧ ∀ k n, m.get k = some n
                ↔ n.toNat + 1 = b (match k with | .w => 0 | .fa => 1 | .fb => 2))
        ∧ (d.length = 21 →
            let cal := fun i window => (⟨s24 i, s24 (i + 3),
              if b (i + 6) ∈ [1, 2, 4, 8, 16] then b (i + 6) else window⟩ : ChannelCal)
            stored 0x40#8 = some { c with channels := ⟨cal 0 8, cal 7 1, cal 14 1⟩ })
        ∧ (d.length = 6 → stored 0x41#8 = some { c with bands := ⟨u 0, u 2, u 4⟩ })

/-- R20, R22, R35, R36, R162, R190, R193, R195, R197: the end of a warm start: what it keeps of the
retained items, the open shots it files, every other item at its value after any start with the zones
derived from the mode, and the notices queued on the ports as they are set up: bay A's filing, bay
B's, STARTED, POWER_WARN in WARNING with the value 0 of a value that R193 does not name (R182), and
HISTORY_NEAR_FULL for LINE. That each port keeps its frame over the start's end is the model's
(notes/assumptions/12), and so is that a filing's RELEASE_DUE for the lower count comes before the one
for the upper (notes/assumptions/18). -/
def Obligations.WarmStartFilesOpenShots : Prop :=
  ∀ (s : State) (k : StartKind) (image : List Byte), s.phase = .starting k → k ≠ .cold →
    StoreLaw s →
    ∃ t, exec (.configLoadEnd image) s = .next t
      ∧ t.phase = .running ∧ t.slots = ⟨none, none⟩ ∧ t.serial = s.serial
      ∧ (∀ i, (t.recipes.get i).recipe = (s.recipes.get i).recipe
            ∧ (t.recipes.get i).revision = (s.recipes.get i).revision)
      ∧ (∀ y, (t.bays.get y).mouldId = (s.bays.get y).mouldId
            ∧ (t.bays.get y).recipeSlot = (s.bays.get y).recipeSlot
            ∧ (t.bays.get y).mouldCheck = (s.bays.get y).mouldCheck)
      ∧ t.history.pending = s.history.pending + s.openShots
      ∧ t.history.filingCounter = s.history.filingCounter + s.openShots
      ∧ (∀ y sh, s.slots.get y = some sh → ∃ r ∈ t.history.slots,
            r.shot = { sh with
                exceptions := insertExc (if k = .mainLoss then .powerInterrupted else .aborted)
                  sh.exceptions }
            ∧ r.outcome = .interrupted ∧ r.verdict = .reject
            ∧ r.exported = false ∧ r.amended = false ∧ r.disposition = none
            ∧ r.dispositionAt = none
            ∧ r.filingNo = s.history.filingCounter
                + (if y = .b ∧ (s.slots.get .a).isSome = true then 2 else 1))
      ∧ (∀ r ∈ s.history.slots, r.exported = false ∨ r.amended = true → r ∈ t.history.slots)
      ∧ t.history.slots.length = min 512 (s.history.slots.length + s.openShots)
      ∧ (s.history.slots.length + s.openShots ≤ 512 → ∃ filed,
          t.history.slots = s.history.slots ++ filed)
      ∧ t.history.armed = decide (t.history.pending < 448)
      ∧ (let closed := fun y => match s.slots.get y with
           | some sh => sh.closedAt.isSome
           | none => false
         let n := (if closed .a then 1 else 0) + (if closed .b then 1 else 0)
         t.upperCount = (if n = 0 then s.upperCount else min 65535 (s.upperCount + n))
           ∧ ∀ y, t.bays.get y = if closed y then { s.bays.get y with
                 lowerCount := min 65535 ((s.bays.get y).lowerCount + 1)
                 shotsOnBinding := min 4294967295 ((s.bays.get y).shotsOnBinding + 1) }
               else s.bays.get y)
      ∧ (∀ i, (t.recipes.get i).inUse = (s.recipes.get i).inUse
            - (if s.names .a i then 1 else 0) - (if s.names .b i then 1 else 0))
      ∧ t.heat.mode
          = (if s.lastHeat.park then .off
             else match (loadImage image).recovery with
               | .off => .off
               | .setback => .setback
               | .previous =>
                 if s.lastHeat.mode = .run ∨ s.lastHeat.mode = .setbackAuto then .run
                 else s.lastHeat.mode)
      ∧ t.lastHeat = ⟨t.heat.mode, false⟩ ∧ t.heat.parkPending = false
      ∧ t.clock = ⟨s.clock.time, !s.pins.clk32,
          s.clock.uncertain || (decide (k = .mainLoss) && s.clock.derived)⟩
      ∧ t.supply = (if s.pins.pfwarn then .warning else .normal)
      ∧ t.permit = { Permit.start with selfHolds :=
          ⟨false, s.pins.pfwarn, ⟨(s.bays.get .a).mouldCheck, (s.bays.get .b).mouldCheck⟩⟩ }
      ∧ t.eject = Eject.start ∧ t.weigh = Weigh.start ∧ t.cureMarks = ⟨none, none⟩
      ∧ t.cfg = loadImage image ∧ t.sensor = Sensor.start (loadImage image).nodeKinds
      ∧ t.heat = { Heat.start (loadImage image).enabledAtStart with
          mode := t.heat.mode, zones := t.heat.zones }
      ∧ (∀ z, t.heat.zones.get z = { Zone.start ((loadImage image).enabledAtStart.get z) with
          target := t.zoneTarget z
          state :=
            if (loadImage image).enabledAtStart.get z = false ∨ t.heat.mode = .off then .off
            else if t.zoneTarget z = none then .idle else .ramp })
      ∧ t.channels = ⟨⟨[], 0⟩, ⟨[], 0⟩, ⟨[], 0⟩⟩
      ∧ t.pending = s.pending ∧ t.pins = s.pins ∧ t.retainTripped = s.retainTripped
      ∧ (∀ p, let q := t.ports.get p
          q = { Port.start ((loadImage image).roles.get p) with
            frame := (s.ports.get p).frame, queue := q.queue, flags := q.flags })
      ∧ (let fresh : State := { s with
           cfg := loadImage image
           ports := Quad.ofFn fun p =>
             { Port.start ((loadImage image).roles.get p) with frame := (s.ports.get p).frame } }
         let filed := fun (y : Bay) (upper : Nat) => match s.slots.get y with
           | some sh => s.filingNotices y sh upper 2 2 []
           | none => []
         let closedA := match s.slots.get .a with
           | some sh => sh.closedAt.isSome
           | none => false
         t.ports = (fresh.sends
           [filed .a s.upperCount,
             filed .b (if closedA then min 65535 (s.upperCount + 1) else s.upperCount),
             [(.every, ⟨.started, none, none,
               (match k with | .cold => 1 | .mainLoss => 2 | .resetLine => 3 | .restart => 4),
               t.heat.mode.code⟩)],
             sentIf (s.pins.pfwarn = true) [(.every, ⟨.powerWarn, none, none, 0, 0⟩)],
             sentIf (448 ≤ t.history.pending)
               [(.station .line, ⟨.historyNearFull, none, none, t.history.pending, 0⟩)]]).ports)

/-- R190, R192: MAIN_LOSS and RESET_ASSERTED stop every block and keep the retained items;
RETAIN_LOSS trips the detector. That it does nothing else, so that the retained items stand as they
were until the cold start that follows, is the model's reading (notes/assumptions/22). -/
def Obligations.SupplyLossKeepsRetainedState : Prop :=
  ∀ s : State,
    (∃ t, exec .mainLoss s = .next t ∧ t.phase = .stopped ∧ t.pins = { s.pins with main := false }
        ∧ OutputsInactive t ∧ SameRetained s t ∧ t.retainTripped = s.retainTripped)
      ∧ (∃ t, exec .resetAsserted s = .next t ∧ t.phase = .stopped
        ∧ t.pins = { s.pins with reset := true }
        ∧ OutputsInactive t ∧ SameRetained s t ∧ t.retainTripped = s.retainTripped)
      ∧ exec .retainLoss s = .next { s with retainTripped := true }

/-- R192, R193: a start begins at MAIN_RISE, at RESET_RELEASED and at RESTART; a tripped detector
makes it cold. Every port's buffer is empty, so the reply of RESTART is never delivered, and no timer
runs. That the detector stays tripped as the start begins is the model's reading
(notes/assumptions/14), and so is that the retained items still stand with a tripped detector
(notes/assumptions/22). -/
def Obligations.StartBeginsAtItsEvent : Prop :=
  ∀ (s : State) (i : Instr) (cause : StartKind),
    ((i = .mainRise ∧ cause = .mainLoss ∧ s.pins.main = false ∧ s.pins.reset = false)
      ∨ (i = .resetReleased ∧ cause = .resetLine ∧ s.pins.main = true ∧ s.pins.reset = true)
      ∨ (∃ p, i = .restart p ∧ cause = .restart ∧ Ready s p i)) →
    ∃ t, exec i s = .next t
      ∧ t.phase = .starting (if s.retainTripped then .cold else cause)
      ∧ OutputsInactive t ∧ SameRetained s t ∧ t.retainTripped = s.retainTripped
      ∧ (∀ p, (t.ports.get p).buffer = .idle ∧ (t.ports.get p).queue = []
          ∧ (t.ports.get p).timer = none)
      ∧ t.sensor.polling = none ∧ t.weigh.timer = none ∧ t.eject.timer = none
      ∧ t.pins = (match cause with
          | .mainLoss => { s.pins with main := true }
          | .resetLine => { s.pins with reset := false }
          | .restart => s.pins
          | .cold => s.pins)

/-- R197, R198: cell time counts on CLK32 or, with MAIN present, on the main clock; the two edges of
CLK32; CLOCK SET, whose reply gives CLOCK_DERIVED before TIME_UNCERTAIN by the model's choice
(notes/assumptions/19). -/
def Obligations.CellTimeCountsAndIsSet : Prop :=
  ∀ s : State,
    ((s.pins.clk32 = true ∨ s.pins.main = true) →
        exec .cellTimeSecond s = .next { s with clock.time := s.clock.time + 1#32 })
      ∧ (s.pins.clk32 = false → s.pins.main = false → exec .cellTimeSecond s = .next s)
      ∧ exec .clk32Stopped s = .next { s with pins.clk32 := false, clock.derived := true }
      ∧ (s.pins.main = true → exec .clk32Resumed s
          = .next { s with pins.clk32 := true, clock.derived := false })
      ∧ (s.pins.main = false → exec .clk32Resumed s = .next { s with pins.clk32 := true })
      ∧ ∀ p x, Ready s p (.clockSet p x) →
          Answers (.clockSet p x) s p { s with clock := ⟨x, s.clock.derived, false⟩ }
            ⟨.ok, [.num s.clock.time.toNat, .flag s.clock.derived, .flag false]⟩

/-- R191, R122, R115, R119, R127: PFWARN asserted while NORMAL and deasserted while WARNING: the hold,
the grants it withdraws with cause 1, the waiters that their end promotes, and the notices of each. The
notices are stated where the shuttle law holds. -/
def Obligations.SupplyWarningHoldsTheCell : Prop :=
  ∀ s : State, s.phase = .running →
    (s.supply = .normal → ∃ t, exec .pfwarnAsserted s = .next t
        ∧ t.supply = .warning ∧ t.pins = { s.pins with pfwarn := true }
        ∧ t.permit.selfHolds = { s.permit.selfHolds with powerWarn := true }
        ∧ t.permit.closeGrant = none ∧ t.permit.shuttleGrant = none
        ∧ t.permit.position
            = (if s.permit.shuttleGrant.isSome then .unknown else s.permit.position)
        ∧ t.permit.press = s.permit.press ∧ t.permit.stationHolds = s.permit.stationHolds
        ∧ t.heat.zones = s.zonesUnshuttled
        ∧ PromotedByGrantsEnd s t
        ∧ (∀ p, (t.ports.get p).state = (s.ports.get p).state
            ∧ ((s.ports.get p).queue.length ≤ 3 →
                ∃ x ∈ (t.ports.get p).queue, x.notice = ⟨.powerWarn, none, none, 1, 0⟩))
        ∧ (ShuttleLaw s → t.ports = (s.sends
            [sentIf (s.permit.selfHolds.powerWarn = false)
                [(.subscribed, ⟨.holdChanged, none, none, 1, t.holds.length⟩)],
              s.shuttleEnd 1, s.closeEnd 1,
              [(.every, ⟨.powerWarn, none, none, 1, 0⟩)], s.areaGrants t]).ports)
        ∧ t = { s with pins := t.pins, supply := t.supply, permit := t.permit, ports := t.ports,
                       heat.zones := t.heat.zones, heat.idleTimer := t.heat.idleTimer })
      ∧ (s.supply = .warning → s.permit.selfHolds.powerWarn = true →
          ∃ t, exec .pfwarnDeasserted s = .next t
            ∧ t = (State.postSubs { s with
                pins.pfwarn := false, supply := .normal, permit.selfHolds.powerWarn := false }
                  ⟨.holdChanged, none, none, 2, s.holds.length - 1⟩).idleSettled)

/-- R196, R194, R42, R45, R66, R87, R180, R187: CONFIG SET of each of the nine items it carries, with
its immediate effects, and its refusals: a changed silence limit restarts the timer of an ONLINE port
of that role, a changed setback temperature derives the targets again, a changed idle limit returns the
idle timer to 0. -/
def Obligations.ConfigSetStoresClampedValues : Prop :=
  ∀ (s : State) (p : PortId) (tag : Byte) (d : List Byte), Ready s p (.configSet p tag d) →
    let fits := (tag.toNat, d.length) ∈ [(0x02, 8), (0x04, 1), (0x11, 4), (0x12, 8), (0x13, 2),
        (0x14, 4), (0x16, 1), (0x41, 6), (0x42, 1)]
      ∧ (tag = 0x04#8 → ∀ x ∈ d, x.toNat ≤ 1)
    (¬fits → TurnsAway (.configSet p tag d) s p ⟨.invalid, []⟩)
      ∧ (fits → s.cfg.locked = true → TurnsAway (.configSet p tag d) s p ⟨.locked, []⟩)
      ∧ (fits → s.cfg.locked = false →
        let b := fun i => (d.getD i 0#8).toNat
        let u := fun i => 256 * b i + b (i + 1)
        let s16 := fun i => if u i < 32768 then (u i : Int) else (u i : Int) - 65536
        let stores := fun (t : State) (r : List Field) =>
          Answers (.configSet p tag d) s p t ⟨.ok, r⟩
        (tag = 0x02#8 →
          let limit := fun i => if u i = 0 then 0 else max 100 (min 60000 (u i))
          let l : PerRole Nat := ⟨limit 0, limit 2, limit 4, limit 6⟩
          ∃ po : PerPort Port,
            (∀ q, po.get q =
              if (s.ports.get q).state = .online
                  ∧ l.get (s.roleOf q) ≠ s.cfg.silence.get (s.roleOf q) then
                { s.ports.get q with
                  timer := if l.get (s.roleOf q) = 0 then none else some (l.get (s.roleOf q)) }
              else s.ports.get q)
            ∧ stores { s with cfg.silence := l, ports := po }
              [.num l.press, .num l.loader, .num l.extract, .num l.line,
                .flag (decide (l ≠ ⟨u 0, u 2, u 4, u 6⟩))])
        ∧ (tag = 0x04#8 → stores { s with cfg.reportErrors := decide (b 0 = 1) }
            [.flag (decide (b 0 = 1)), .flag false])
        ∧ (tag = 0x11#8 →
            let n := 65536 * u 0 + u 2
            stores { s with cfg.budget := min 200000 n }
              [.num (min 200000 n : Nat), .flag (decide (200000 < n))])
        ∧ (tag = 0x12#8 →
            stores { s with cfg.upperGains := ⟨u 0, u 2⟩, cfg.mouldGains := ⟨u 4, u 6⟩ }
              [.num (u 0), .num (u 2), .num (u 4), .num (u 6), .flag false])
        ∧ (tag = 0x13#8 → stores { s with cfg.rampLimit := min 1000 (u 0) }
            [.num (min 1000 (u 0) : Nat), .flag (decide (1000 < u 0))])
        ∧ (tag = 0x14#8 →
            let x : Int := max 0 (min 4000 (s16 0))
            let y : Int := max 0 (min 4000 (s16 2))
            let t : State := { s with cfg.setbackUpper := x, cfg.setbackMould := y }
            let r : Reply := ⟨.ok, [.num x, .num y, .flag (decide (x ≠ s16 0 ∨ y ≠ s16 2))]⟩
            (x = s.cfg.setbackUpper ∧ y = s.cfg.setbackMould →
                TurnsAway (.configSet p tag d) s p r)
              ∧ (¬(x = s.cfg.setbackUpper ∧ y = s.cfg.setbackMould) →
                AnswersEnding (.configSet p tag d) s p t.rederiveZones r))
        ∧ (tag = 0x16#8 → stores
            { s with
              cfg.idleLimit := min 240 (b 0)
              heat.idleTimer := if min 240 (b 0) = s.cfg.idleLimit then s.heat.idleTimer else 0 }
            [.num (min 240 (b 0) : Nat), .flag (decide (240 < b 0))])
        ∧ (tag = 0x41#8 → stores { s with cfg.bands := ⟨u 0, u 2, u 4⟩ }
            [.num (u 0), .num (u 2), .num (u 4), .flag false])
        ∧ (tag = 0x42#8 → stores { s with cfg.weighTimeout := max 1 (min 30 (b 0)) }
            [.num (max 1 (min 30 (b 0)) : Nat), .flag (decide (b 0 < 1 ∨ 30 < b 0))]))

/-- R187: an ONLINE LINE port whose silence timer runs out becomes LOST, and the alarm on every port
is all that follows. R99, R129, R139: the LOADER or EXTRACT port goes LOST: its waits are cancelled,
its holder claims stay, a weigh or a tare it began ends with nothing appended, an ejection in
progress is marked and stopped; STATION_LOST goes to every port, then WEIGH_CANCELLED or TARE_FAILED
with cause 3 to LOADER, then AREA_CANCELLED to the station for each wait it loses. -/
def Obligations.LostPortsAreAlarmed : Prop :=
  (∀ (s : State) (p : PortId), s.phase = .running → s.roleOf p = .line →
     (s.ports.get p).state = .online → (s.ports.get p).timer.isSome = true →
     exec (.silenceTimerExpiry p) s = .next
       ((State.postAll { s with
           ports := s.ports.set p { s.ports.get p with state := .lost, timer := none } }
         ⟨.stationLost, none, none, p.toNat, 4⟩).idleSettled))
    ∧ (∀ (s : State) (p : PortId) (u : AreaUser), s.phase = .running → s.roleOf p = u.role →
       (s.ports.get p).state = .online → (s.ports.get p).timer.isSome = true →
       ∃ t, exec (.silenceTimerExpiry p) s = .next t
         ∧ (t.ports.get p).state = .lost ∧ (t.ports.get p).timer = none
         ∧ (∀ r, (t.permit.areas.get r).holder = (s.permit.areas.get r).holder
             ∧ (t.permit.areas.get r).waiter
                 = (if (s.permit.areas.get r).waiter = some u then none
                    else (s.permit.areas.get r).waiter))
         ∧ (u = .loader → t.slots = s.slots ∧ t.eject = s.eject
             ∧ t.weigh.tare = s.weigh.tare
             ∧ ((∃ y, s.weigh.slot = .weigh y) ∨ s.weigh.slot = .tare .loader →
                 t.weigh.slot = .none ∧ t.weigh.timer = none)
             ∧ (s.weigh.slot = .tare .line → t.weigh = s.weigh))
         ∧ (u = .extract → t.weigh = s.weigh
             ∧ (s.eject.state = .idle → t.eject = s.eject ∧ t.slots = s.slots)
             ∧ ∀ y sh, s.eject.state ≠ .idle → s.eject.bay = some y → s.slots.get y = some sh →
                 t.slots = s.slots.set y
                     (some { sh with exceptions := insertExc .stationSilent sh.exceptions })
                   ∧ t.eject = (if s.eject.state = .active then
                       { s.eject with state := .stopped, cause := .stationSilent } else s.eject))
         ∧ t.ports = (State.sends
             { s with
               ports := s.ports.set p { s.ports.get p with state := .lost, timer := none } }
             [[(.every, ⟨.stationLost, none, none, p.toNat,
                 match u with | .loader => 2 | .extract => 3⟩)],
               sentIf (u = .loader) (match s.weigh.slot with
                 | .weigh y => [(.station .loader, ⟨.weighCancelled, some y,
                     (s.slots.get y).map Shot.serial, 3, 0⟩)]
                 | .tare .loader => [(.station .loader, ⟨.tareFailed, none, none, 3, 0⟩)]
                 | _ => []),
               sentIf ((s.permit.areas.get .press).waiter = some u)
                 [(.station u.role, ⟨.areaCancelled, none, none, 1, 0⟩)],
               sentIf ((s.permit.areas.get .load).waiter = some u)
                 [(.station u.role, ⟨.areaCancelled, none, none, 2, 0⟩)]]).ports
         ∧ t = { s with ports := t.ports, permit.areas := t.permit.areas, slots := t.slots,
                        weigh := t.weigh, eject := t.eject, heat.idleTimer := t.heat.idleTimer })

/-- R130, R187: the PRESS port goes LOST: both grants end (causes 5 and 2), the press is UNKNOWN, the
pressed shots are marked, PRESS_SILENT is held, the waiter of LOAD_AREA is promoted, and the notices of
each in that order. -/
def Obligations.LostPressEndsTheGrants : Prop :=
  ∀ (s : State) (p : PortId), s.phase = .running → s.roleOf p = .press →
    (s.ports.get p).state = .online → (s.ports.get p).timer.isSome = true →
    ∃ t, exec (.silenceTimerExpiry p) s = .next t
      ∧ (t.ports.get p).state = .lost ∧ (t.ports.get p).timer = none
      ∧ t.permit.closeGrant = none ∧ t.permit.shuttleGrant = none ∧ t.permit.press = .unknown
      ∧ t.permit.position = (if s.permit.shuttleGrant.isSome then .unknown else s.permit.position)
      ∧ t.heat.zones = s.zonesUnshuttled
      ∧ t.permit.selfHolds = { s.permit.selfHolds with pressSilent := true }
      ∧ t.permit.stationHolds = s.permit.stationHolds
      ∧ (∀ y, t.slots.get y = (s.slots.get y).map fun sh =>
            if sh.stage = .closed ∨ sh.stage = .cured then
              { sh with exceptions := insertExc .stationSilent sh.exceptions }
            else sh)
      ∧ (∀ r u, (s.permit.areas.get r).holder = some u →
            t.permit.areas.get r = s.permit.areas.get r)
      ∧ t.permit.areas.get .press = s.permit.areas.get .press
      ∧ t.permit.areas.get .load =
          (match (s.permit.areas.get .load).holder, (s.permit.areas.get .load).waiter with
          | none, some u => ⟨some u, none⟩
          | _, _ => s.permit.areas.get .load)
      ∧ t.ports = (State.sends
          { s with ports := s.ports.set p { s.ports.get p with state := .lost, timer := none } }
          [[(.every, ⟨.stationLost, none, none, p.toNat, 1⟩)], s.closeEnd 5, s.shuttleEnd 2,
            sentIf (s.permit.press ≠ .unknown)
              [(.subscribed, ⟨.pressState, none, none, 0, s.permit.press.code⟩)],
            sentIf (s.permit.selfHolds.pressSilent = false)
              [(.subscribed, ⟨.holdChanged, none, none, 1, t.holds.length⟩)],
            s.areaGrants t]).ports
      ∧ t = { s with ports := t.ports, permit := t.permit, slots := t.slots,
                     heat.zones := t.heat.zones, heat.idleTimer := t.heat.idleTimer }

/-! ### The hold set (R122 to R124) -/

/-- R123, R122: HOLD ADD of a new entry that blocks no outstanding grant, of one that does, of a
duplicate, of a thirteenth, and of an inadmissible one. The notices of a withdrawal, which for the
scope CELL are stated where the shuttle law holds, follow HOLD_CHANGED with cause 1. -/
def Obligations.HoldAddPlacesAnEntry : Prop :=
  ∀ (s : State) (p : PortId) (a b : Byte), Ready s p (.holdAdd p a b) →
    ((scopeOf a = none ∨ b.toNat < 1 ∨ 15 < b.toNat) →
        TurnsAway (.holdAdd p a b) s p ⟨.invalid, []⟩)
      ∧ ∀ sc h, scopeOf a = some sc → 1 ≤ b.toNat → b.toNat ≤ 15 →
          h = (⟨.station (s.roleOf p), sc, b.toNat⟩ : Hold) →
          (h ∈ s.permit.stationHolds →
              TurnsAway (.holdAdd p a b) s p ⟨.ok, [.num s.holds.length]⟩)
            ∧ (h ∉ s.permit.stationHolds → 12 ≤ s.permit.stationHolds.length →
                TurnsAway (.holdAdd p a b) s p ⟨.full, []⟩)
            ∧ (h ∉ s.permit.stationHolds → s.permit.stationHolds.length < 12 →
                ((sc = .cell → s.permit.closeGrant = none ∧ s.permit.shuttleGrant = none) ∧
                  (∀ y, sc = .bay y → s.permit.closeGrant ≠ some y) →
                  Answers (.holdAdd p a b) s p
                    (State.postSubs
                      { s with permit.stationHolds := s.permit.stationHolds ++ [h] }
                      ⟨.holdChanged, (match sc with | .cell => none | .bay y => some y), none, 1,
                        s.holds.length + 1⟩)
                    ⟨.ok, [.num (s.holds.length + 1)]⟩)
                ∧ ∃ t, exec (.holdAdd p a b) s = .next t
                    ∧ t.permit.stationHolds = s.permit.stationHolds ++ [h]
                    ∧ t.permit.selfHolds = s.permit.selfHolds ∧ t.permit.press = s.permit.press
                    ∧ (sc = .cell → t.permit.closeGrant = none ∧ t.permit.shuttleGrant = none
                        ∧ t.permit.position
                            = (if s.permit.shuttleGrant.isSome then .unknown
                               else s.permit.position)
                        ∧ t.heat.zones = s.zonesUnshuttled)
                    ∧ (∀ y, sc = .bay y → t.heat.zones = s.heat.zones
                        ∧ t.permit.shuttleGrant = s.permit.shuttleGrant
                        ∧ t.permit.position = s.permit.position
                        ∧ t.permit.closeGrant = (if s.permit.closeGrant = some y then none
                            else s.permit.closeGrant))
                    ∧ (t.ports.get p).buffer
                        = .processing (.holdAdd p a b) (some ⟨.ok, [.num (s.holds.length + 1)]⟩)
                    ∧ PromotedByGrantsEnd s t
                    ∧ ((sc = .cell → ShuttleLaw s) → t.ports = (State.answer (s.sends
                        [[(.subscribed, ⟨.holdChanged,
                            (match sc with | .cell => none | .bay y => some y), none, 1,
                            s.holds.length + 1⟩)],
                          (match sc with
                            | .cell => s.shuttleEnd 1 ++ s.closeEnd 1
                            | .bay y => sentIf (s.permit.closeGrant = some y) (s.closeEnd 1)),
                          s.areaGrants t])
                        p (.holdAdd p a b) ⟨.ok, [.num (s.holds.length + 1)]⟩).ports)
                    ∧ t = { s with ports := t.ports, permit := t.permit,
                                   heat.zones := t.heat.zones, heat.idleTimer := t.heat.idleTimer })

/-- R124: HOLD REMOVE removes the sender's own entries that match, HOLD CLEAR every station entry;
the SELF entries stay, and a removal of none queues nothing. A scope or a reason out of range is
refused with INVALID. -/
def Obligations.HoldRemovalReachesStationEntriesOnly : Prop :=
  (∀ (s : State) (p : PortId) (i : Instr) (f : Hold → Bool), Ready s p i →
    (i = .holdClear p ∧ f = (fun _ => true)
      ∨ ∃ a b, i = .holdRemove p a b ∧ (a = 0#8 ∨ (scopeOf a).isSome = true) ∧ b.toNat ≤ 15
          ∧ ∀ h, f h = true ↔ h.holder = .station (s.roleOf p)
              ∧ (a = 0#8 ∨ scopeOf a = some h.scope) ∧ (b = 0#8 ∨ h.reason = b.toNat)) →
    (s.permit.stationHolds.filter f = [] → TurnsAway i s p ⟨.ok, [.num 0]⟩)
      ∧ (s.permit.stationHolds.filter f ≠ [] → ∃ y,
          (∀ x, y = some x ↔ ∀ h ∈ s.permit.stationHolds.filter f, h.scope = .bay x)
          ∧ Answers i s p
              (State.postSubs
                { s with permit.stationHolds := s.permit.stationHolds.filter fun h => !f h }
                ⟨.holdChanged, y, none, 2,
                  s.holds.length - (s.permit.stationHolds.filter f).length⟩)
              ⟨.ok, [.num (s.permit.stationHolds.filter f).length]⟩))
    ∧ ∀ (s : State) (p : PortId) (a b : Byte), Ready s p (.holdRemove p a b) →
      ((a ≠ 0#8 ∧ scopeOf a = none) ∨ 15 < b.toNat) →
      TurnsAway (.holdRemove p a b) s p ⟨.invalid, []⟩

/-! ### Press reports (R109 to R112) -/

/-- R109 to R112, R115, R119, R127: what every press report does, with or without a force: the press
state, the grants and the position, each bay's shot (closed, then its force, then opened), the areas,
and the reply, whose list of shots comes bay A first by the model's choice (notes/assumptions/19). The
notices of each step are stated where the shuttle law holds; that bay A's comes before bay B's is the
model's choice (notes/assumptions/18).
R110: a CLOSED report without a force on a CHARGED shot under the press: with a close grant the grant
is consumed, without one the shot is marked and the alarm raised; the shot is CLOSED. -/
def Obligations.PressReportsMoveThePress : Prop :=
  (∀ (s : State) (p : PortId) (b : Byte) (f : Option (BitVec 16)), Ready s p (.reportPress p b f) →
      (pressOf b = none → TurnsAway (.reportPress p b f) s p ⟨.invalid, []⟩)
      ∧ ∀ x, pressOf b = some x → ∃ t, exec (.reportPress p b f) s = .next t
          ∧ t.permit.press = x
          ∧ (x = .opening → t.permit.closeGrant = none)
          ∧ (s.permit.press = .open → x ≠ .open → t.permit.shuttleGrant = none
              ∧ t.permit.position
                = (if s.permit.shuttleGrant.isSome then .unknown else s.permit.position))
          ∧ (x = .closing → f = none → t.slots = s.slots
              ∧ (s.permit.shuttleGrant = none → t.permit.closeGrant = s.permit.closeGrant))
          ∧ t.permit.stationHolds = s.permit.stationHolds
          ∧ t.permit.selfHolds = s.permit.selfHolds
          ∧ t = { s with
              ports := t.ports, permit := t.permit, slots := t.slots, heat.zones := t.heat.zones
              heat.idleTimer := t.heat.idleTimer }
          ∧ (let withdrawn := s.permit.press = .open ∧ x ≠ .open ∧ s.permit.shuttleGrant.isSome
             let position := if withdrawn then .unknown else s.permit.position
             let closing := fun (y : Bay) (sh : Shot) =>
               x = .closed ∧ position.inBay = some y ∧ sh.stage = .charged
             let marked := fun sh : Shot => if s.clock.uncertain then
               { sh with exceptions := insertExc .timeUncertain sh.exceptions } else sh
             let pressed := fun sh : Shot => sh.stage = .closed ∨ sh.stage = .cured
             let close := fun (y : Bay) (sh : Shot) => if closing y sh then
               marked { sh with
                 stage := .closed
                 closedAt := some ⟨s.clock.time, s.clock.uncertain⟩
                 exceptions := if s.permit.closeGrant.isSome then sh.exceptions
                   else insertExc .closedUnpermitted sh.exceptions }
               else sh
             let press := fun sh : Shot => match f with
               | none => sh
               | some v => if pressed sh then
                   let peak := match sh.pressPeak with
                     | none => v.toNat
                     | some q => max q v.toNat
                   { sh with
                     pressPeak := some peak
                     exceptions := if peak < (s.shotRecipe sh).elim 0 Recipe.minPressForce then
                       insertExc .forceLow sh.exceptions else sh.exceptions }
                 else sh
             let opened := fun sh : Shot => if x = .open ∧ pressed sh then
               marked { sh with
                 stage := .opened
                 pressOpenedAt := some ⟨s.clock.time, s.clock.uncertain⟩
                 exceptions := if sh.stage = .closed then insertExc .earlyOpen sh.exceptions
                   else sh.exceptions }
               else sh
             let change := fun y : Bay => match s.slots.get y, t.slots.get y with
               | some a, some b => if a.stage = b.stage then []
                 else [Field.bay y, .num b.serial, .num b.stage.code]
               | _, _ => []
             t.permit.position = position
               ∧ t.permit.shuttleGrant = (if s.permit.press = .open ∧ x ≠ .open then none
                 else s.permit.shuttleGrant)
               ∧ t.heat.zones = (if s.permit.press = .open ∧ x ≠ .open then s.zonesUnshuttled
                 else s.heat.zones)
               ∧ (∀ y, t.slots.get y
                   = (s.slots.get y).map fun sh => opened (press (close y sh)))
               ∧ (∀ y sh, s.slots.get y = some sh → closing y sh → t.permit.closeGrant = none
                   ∧ (s.permit.closeGrant = none → ∀ q, (s.ports.get q).queue.length ≤ 5 →
                     ∃ n ∈ (t.ports.get q).queue,
                       n.notice = ⟨.unpermittedClose, some y, some sh.serial, 0, 0⟩))
               ∧ (¬withdrawn → x ≠ .opening →
                   (∀ y sh, s.slots.get y = some sh → ¬closing y sh) →
                   t.permit.closeGrant = s.permit.closeGrant)
               ∧ (∀ r, t.permit.areas.get r =
                   match (s.permit.areas.get r).holder, (s.permit.areas.get r).waiter with
                   | none, some u =>
                     if t.permit.shuttleGrant = none
                         ∧ (r = .press → x = .open ∧ t.permit.closeGrant = none) then
                       ⟨some u, none⟩
                     else s.permit.areas.get r
                   | _, _ => s.permit.areas.get r)
               ∧ (t.ports.get p).buffer = .processing (.reportPress p b f)
                   (some ⟨.ok, .num x.code :: (change .a ++ change .b)⟩)
               ∧ (let shut := fun y : Bay => match s.slots.get y with
                    | some sh => sentIf (closing y sh)
                        (sentIf (s.permit.closeGrant = none)
                            [(.every, ⟨.unpermittedClose, some y, some sh.serial, 0, 0⟩)]
                          ++ [(.subscribed, ⟨.shotStage, some y, some sh.serial, 3, 2⟩)])
                    | none => []
                  let opens := fun y : Bay => match s.slots.get y with
                    | some sh => sentIf (x = .open ∧ pressed sh)
                        [(.subscribed, ⟨.shotStage, some y, some sh.serial, 5, sh.stage.code⟩)]
                    | none => []
                  ShuttleLaw s → t.ports = (State.answer (s.sends
                    [sentIf (s.permit.press ≠ x)
                        [(.subscribed, ⟨.pressState, none, none, x.code, s.permit.press.code⟩)],
                      sentIf (s.permit.press = .open ∧ x ≠ .open) (s.shuttleEnd 3),
                      sentIf (x = .opening) (s.closeEnd 6),
                      shut .a, shut .b, opens .a, opens .b, s.areaGrants t])
                    p (.reportPress p b f) ⟨.ok, .num x.code :: (change .a ++ change .b)⟩).ports)))
    ∧ ∀ (s : State) (p : PortId) (y : Bay) (sh : Shot), Ready s p (.reportPress p 3#8 none) →
        s.permit.position.inBay = some y → s.slots.get y = some sh → sh.stage = .charged →
        s.permit.shuttleGrant = none →
        ∃ t, exec (.reportPress p 3#8 none) s = .next t
          ∧ t.permit.press = .closed ∧ t.permit.closeGrant = none ∧ t.permit.shuttleGrant = none
          ∧ t.permit.position = s.permit.position
          ∧ t.permit.stationHolds = s.permit.stationHolds ∧ t.permit.selfHolds = s.permit.selfHolds
          ∧ t.permit.areas.get .press = s.permit.areas.get .press
          ∧ t.slots = s.slots.set y (some { sh with
                stage := .closed
                closedAt := some ⟨s.clock.time, s.clock.uncertain⟩
                exceptions :=
                  let e := if s.permit.closeGrant.isSome then sh.exceptions
                    else insertExc .closedUnpermitted sh.exceptions
                  if s.clock.uncertain then insertExc .timeUncertain e else e })
          ∧ (s.permit.closeGrant = none → ∀ q, (s.ports.get q).queue.length ≤ 5 →
                ∃ x ∈ (t.ports.get q).queue,
                  x.notice = ⟨.unpermittedClose, some y, some sh.serial, 0, 0⟩)
          ∧ t = { s with ports := t.ports, permit := t.permit, slots := t.slots,
                         heat.idleTimer := t.heat.idleTimer }

/-- R109, R111: a force carried by a CLOSED report that closes no shot, for a pressed shot: the peak
becomes the force if it was absent or lower, and a peak below the recipe's minimum adds FORCE_LOW.
-/
def Obligations.PressForceRaisesThePeak : Prop :=
  ∀ (s : State) (p : PortId) (f : BitVec 16), Ready s p (.reportPress p 3#8 (some f)) →
    s.permit.press = .closed →
    (∀ y sh, s.permit.position.inBay = some y → s.slots.get y = some sh → sh.stage ≠ .charged) →
    ∃ t, exec (.reportPress p 3#8 (some f)) s = .next t
      ∧ (∀ y, s.slots.get y = none → t.slots.get y = none)
      ∧ (∀ y sh r, s.slots.get y = some sh → s.shotRecipe sh = some r →
          t.slots.get y = some
            (if sh.stage = .closed ∨ sh.stage = .cured then
              let peak := match sh.pressPeak with
                | none => f.toNat
                | some q => max q f.toNat
              { sh with
                pressPeak := some peak
                exceptions := if peak < r.minPressForce then insertExc .forceLow sh.exceptions
                  else sh.exceptions }
             else sh))
      ∧ t = { s with ports := t.ports, slots := t.slots, permit.areas := t.permit.areas,
                     heat.idleTimer := t.heat.idleTimer }

/-- R109, R112, R127: an OPEN report without a force opens every pressed shot, a CLOSED one with
EARLY_OPEN, and promotes the waiters of the areas that are then enterable. -/
def Obligations.OpenReportOpensPressedShots : Prop :=
  ∀ (s : State) (p : PortId), Ready s p (.reportPress p 1#8 none) →
    ∃ t, exec (.reportPress p 1#8 none) s = .next t
      ∧ t.permit.press = .open ∧ t.permit.position = s.permit.position
      ∧ t.permit.closeGrant = s.permit.closeGrant ∧ t.permit.shuttleGrant = s.permit.shuttleGrant
      ∧ (∀ y, t.slots.get y = (s.slots.get y).map fun sh =>
          if sh.stage = .closed ∨ sh.stage = .cured then
            { sh with
              stage := .opened
              pressOpenedAt := some ⟨s.clock.time, s.clock.uncertain⟩
              exceptions :=
                let e := if sh.stage = .closed then insertExc .earlyOpen sh.exceptions
                  else sh.exceptions
                if s.clock.uncertain then insertExc .timeUncertain e else e }
          else sh)
      ∧ (∀ r, t.permit.areas.get r =
          match (s.permit.areas.get r).holder, (s.permit.areas.get r).waiter with
          | none, some u =>
            if s.permit.shuttleGrant = none ∧ (r = .press → s.permit.closeGrant = none) then
              ⟨some u, none⟩
            else s.permit.areas.get r
          | _, _ => s.permit.areas.get r)
      ∧ t = { s with ports := t.ports, slots := t.slots, permit.press := .open,
                     permit.areas := t.permit.areas, heat.idleTimer := t.heat.idleTimer }

/-! ### The close and shuttle permits (R113 to R120) -/

/-- R117, R118: CLOSE REQUEST: a grant already outstanding is repeated; otherwise the first
condition that fails gives the reply and nothing changes, and with none failing the grant becomes
outstanding. That a NOT_AT_TEMP reply lists its zones by ascending number is the model's choice
(notes/assumptions/19). -/
def Obligations.CloseIsGrantedExactlyWhenPermitted : Prop :=
  ∀ (s : State) (p : PortId), Ready s p (.closeRequest p) →
    (∀ y, s.permit.closeGrant = some y →
        TurnsAway (.closeRequest p) s p ⟨.granted, [.bay y]⟩)
      ∧ (s.permit.closeGrant = none →
          ((s.permit.shuttleGrant.isSome = true →
              TurnsAway (.closeRequest p) s p ⟨.grantActive, []⟩)
            ∧ (s.permit.shuttleGrant = none → s.permit.position.inBay = none →
                TurnsAway (.closeRequest p) s p ⟨.positionUnknown, []⟩)
            ∧ ∀ y, s.permit.shuttleGrant = none → s.permit.position.inBay = some y →
                (s.permit.press ≠ .open → TurnsAway (.closeRequest p) s p ⟨.pressNotOpen, []⟩)
                ∧ (s.permit.press = .open → s.shotStage y ≠ some .charged →
                    TurnsAway (.closeRequest p) s p ⟨.notCharged, []⟩)
                ∧ ∀ sh, s.permit.press = .open → s.slots.get y = some sh → sh.stage = .charged →
                    (∀ pre h post, s.holds = pre ++ h :: post →
                        (h.scope = .cell ∨ h.scope = .bay y) →
                        (∀ x ∈ pre, x.scope ≠ .cell ∧ x.scope ≠ .bay y) →
                        TurnsAway (.closeRequest p) s p
                          ⟨.holdActive, [.holder h.holder, .scope h.scope, .num h.reason]⟩)
                    ∧ ((∀ h ∈ s.holds, h.scope ≠ .cell ∧ h.scope ≠ .bay y) →
                        ((s.permit.areas.get .press).holder.isSome = true →
                            TurnsAway (.closeRequest p) s p ⟨.areaOccupied, []⟩)
                        ∧ ((s.permit.areas.get .press).holder = none →
                            (s.upperDue = true →
                                TurnsAway (.closeRequest p) s p ⟨.releaseDue, []⟩)
                            ∧ (s.upperDue = false →
                                (s.heat.mode ≠ .run →
                                    TurnsAway (.closeRequest p) s p ⟨.heatMode, []⟩)
                                ∧ (s.heat.mode = .run →
                                    ((∃ z ∈ curingZones y, (s.heat.zones.get z).atTemp = false) →
                                      TurnsAway (.closeRequest p) s p ⟨.notAtTemp,
                                        (ZoneId.all.filter fun z => decide (z ∈ curingZones y
                                          ∧ (s.heat.zones.get z).atTemp = false)).map
                                            fun z => .num z.number⟩)
                                    ∧ ((∀ z ∈ curingZones y, (s.heat.zones.get z).atTemp = true) →
                                      Answers (.closeRequest p) s p
                                        { s with permit.closeGrant := some y }
                                        ⟨.granted, [.bay y, .num sh.serial]⟩)))))))

/-- R113, R67: SHUTTLE REQUEST in a heat mode other than SETBACK_AUTO: the first condition that
fails gives the reply and nothing changes; with none failing the shuttle is granted and MOVING, with
SHUTTLE_POSITION. In SETBACK_AUTO the mode becomes RUN whatever the outcome. A target out of range is
refused with INVALID. That the GRANTED reply carries no data is the model's choice (notes/assumptions/19). -/
def Obligations.ShuttleIsGrantedExactlyWhenPermitted : Prop :=
  ∀ (s : State) (p : PortId) (b : Byte), Ready s p (.shuttleRequest p b) →
    (bayOf b = none → TurnsAway (.shuttleRequest p b) s p ⟨.invalid, []⟩)
    ∧ ∀ y, bayOf b = some y →
    let woken := if s.heat.mode = .setbackAuto then s.setMode .run else s
    let code : Option ResultCode :=
      if s.permit.position = Position.ofIn y then some .samePosition
      else if s.permit.press ≠ .open then some .pressNotOpen
      else if s.permit.closeGrant ≠ none ∨ s.permit.shuttleGrant ≠ none then some .grantActive
      else if ∃ h ∈ s.holds, h.scope = .cell then some .holdActive
      else if (s.permit.areas.get .press).holder ≠ none ∨ (s.permit.areas.get .load).holder ≠ none
        then some .areaOccupied
      else if s.shotStage .a = some .charging ∨ s.shotStage .b = some .charging then
        some .chargeOpen
      else none
    (∀ c, code = some c →
        (s.heat.mode ≠ .setbackAuto → TurnsAway (.shuttleRequest p b) s p ⟨c, []⟩)
          ∧ (s.heat.mode = .setbackAuto → s.permit.closeGrant = none →
              Answers (.shuttleRequest p b) s p (s.setMode .run) ⟨c, []⟩))
      ∧ (code = none → ∃ t, exec (.shuttleRequest p b) s = .next t
          ∧ t.permit.shuttleGrant = some y ∧ t.permit.position = .moving
          ∧ t.permit.closeGrant = none ∧ t.permit.press = .open
          ∧ t.permit.areas = s.permit.areas ∧ t.permit.stationHolds = s.permit.stationHolds
          ∧ t.permit.selfHolds = s.permit.selfHolds
          ∧ t.heat.mode = (if s.heat.mode = .setbackAuto then .run else s.heat.mode)
          ∧ t.heat.zones = woken.zonesAt .moving
          ∧ t = { s with
              ports := t.ports, permit := t.permit
              heat := { s.heat with
                mode := t.heat.mode, zones := t.heat.zones, idleTimer := 0 }
              lastHeat := woken.lastHeat }
          ∧ (t.ports.get p).buffer
              = .processing (.shuttleRequest p b) (some ⟨.granted, []⟩)
          ∧ t = { s with ports := t.ports, permit := t.permit, heat := t.heat,
                         lastHeat.mode := t.lastHeat.mode }
          ∧ t.ports = (State.answer (woken.sends
              [sentIf (s.permit.position ≠ .moving)
                [(.subscribed, ⟨.shuttlePosition, none, none, 3, s.permit.position.code⟩)]])
              p (.shuttleRequest p b) ⟨.granted, []⟩).ports)

/-- R114: SHUTTLE DONE is refused under a close grant; otherwise the shuttle grant ends, the
position is the one reported, with SHUTTLE_POSITION if it differs, and the areas' waiters are promoted
where the areas are enterable, with AREA_GRANTED. That another value answers INVALID under a close grant
too is the model's choice (notes/assumptions/27). -/
def Obligations.ShuttleDoneSetsThePosition : Prop :=
  ∀ (s : State) (p : PortId) (b : Byte), Ready s p (.shuttleDone p b) →
    (bayOf b = none → TurnsAway (.shuttleDone p b) s p ⟨.invalid, []⟩)
      ∧ ∀ y, bayOf b = some y →
          (s.permit.closeGrant ≠ none → TurnsAway (.shuttleDone p b) s p ⟨.grantActive, []⟩)
          ∧ (s.permit.closeGrant = none → ∃ t, exec (.shuttleDone p b) s = .next t
              ∧ t.permit.shuttleGrant = none ∧ t.permit.closeGrant = none
              ∧ t.permit.position = (match y with | .a => .aIn | .b => .bIn)
              ∧ t.heat.zones = s.zonesAt (match y with | .a => .aIn | .b => .bIn)
              ∧ (∀ r, t.permit.areas.get r =
                  match (s.permit.areas.get r).holder, (s.permit.areas.get r).waiter with
                  | none, some u =>
                    if r = .press → s.permit.press = .open then ⟨some u, none⟩
                    else s.permit.areas.get r
                  | _, _ => s.permit.areas.get r)
              ∧ (t.ports.get p).buffer = .processing (.shuttleDone p b)
                  (some ⟨.ok, [.num (match y with | .a => 1 | .b => 2)]⟩)
              ∧ (let code : Int := match y with | .a => 1 | .b => 2
                 t.ports = (State.answer (s.sends
                  [sentIf (s.permit.position.code ≠ code)
                      [(.subscribed,
                        ⟨.shuttlePosition, none, none, code, s.permit.position.code⟩)],
                    s.areaGrants t]) p (.shuttleDone p b) ⟨.ok, [.num code]⟩).ports)
              ∧ t = { s with ports := t.ports, permit.shuttleGrant := none,
                             permit.position := t.permit.position,
                             permit.areas := t.permit.areas, heat.zones := t.heat.zones,
                             heat.idleTimer := t.heat.idleTimer })

/-- R116: SHUTTLE_OK asserted only with the press OPEN, no holder, no CELL hold, no close grant. -/
def Obligations.ShuttleLawIsKept : Prop :=
  (∀ s : State, s.shuttleOk = true → s.permit.shuttleGrant.isSome = true)
    ∧ ∀ (s t : State), ShuttleLaw s → step s = .next t → ShuttleLaw t

/-- R120: CLOSE_OK asserted only while the eight conditions hold. The premises are the laws of the
bays' shots and of the shuttle permit, each stated as kept on its own. -/
def Obligations.CloseLawIsKept : Prop :=
  (∀ s : State, s.closeOk = true → s.permit.closeGrant.isSome = true)
    ∧ ∀ (s t : State), ShuttleLaw s → UseLaw s → ContextLaw s → EjectLaw s → CloseLaw s →
        step s = .next t → CloseLaw t

/-- R122, R123: the hold set stays without duplicates, within its limits, and the SELF entries
present exactly while their conditions hold. -/
def Obligations.HoldLawIsKept : Prop :=
  ∀ (s t : State), RolesLaw s → HoldLaw s → step s = .next t → RolesLaw t ∧ HoldLaw t

/-! ### Work areas (R125 to R128) -/

/-- R126, R67: the cases of AREA ENTER in their order, on the state that the wake rule leaves: in
SETBACK_AUTO, in which no close grant stands (CloseLawIsKept), the mode becomes RUN whatever the
answer. R128, R127, R140: AREA LEAVE and FORCE LEAVE: the holder's claim ends, FORCE LEAVE raises
AREA_FORCED, and the waiter is promoted with AREA_GRANTED if the area is enterable; EXTRACT losing
LOAD_AREA stops an ACTIVE ejection; a wait is withdrawn. An area out of range is refused with INVALID.
That the OK of AREA ENTER carries no data is the model's choice (notes/assumptions/19). -/
def Obligations.AreaClaimsAreGivenAndReleased : Prop :=
  (∀ (s : State) (p : PortId) (b : Byte) (i : Instr), Ready s p i → areaOf b = none →
     (i = .areaEnter p b ∨ i = .areaLeave p b ∨ i = .forceLeave p b) →
     TurnsAway i s p ⟨.invalid, []⟩)
    ∧ (∀ (s : State) (p : PortId) (b : Byte) (u : AreaUser) (r o : Area),
     Ready s p (.areaEnter p b) → s.roleOf p = u.role →
     (s.heat.mode = .setbackAuto → s.permit.closeGrant = none) →
     areaOf b = some r → o ≠ r →
     let x := s.permit.areas.get r
     let y := s.permit.areas.get o
     let woken := if s.heat.mode = .setbackAuto then s.setMode .run else s
     let ends := fun (c : ResultCode) (v : AreaRecord) =>
       Answers (.areaEnter p b) s p { woken with permit.areas := s.permit.areas.set r v } ⟨c, []⟩
     (x.holder = some u → ends .ok x)
       ∧ (x.holder ≠ some u →
           ((y.holder = some u ∨ y.waiter = some u) → ends .holdsOther x)
           ∧ (y.holder ≠ some u → y.waiter ≠ some u →
               (x.waiter = some u → ends .pending x)
               ∧ (x.waiter ≠ some u →
                   (x.holder = none → s.permit.shuttleGrant = none →
                     (r = .press → s.permit.press = .open ∧ s.permit.closeGrant = none) →
                     ends .ok { x with holder := some u })
                   ∧ ((x.holder ≠ none ∨ s.permit.shuttleGrant ≠ none
                         ∨ (r = .press
                             ∧ (s.permit.press ≠ .open ∨ s.permit.closeGrant ≠ none))) →
                       (x.waiter ≠ none → ends .busy x)
                       ∧ (x.waiter = none → ends .pending { x with waiter := some u })))))
       ∧ woken.heat.mode = (if s.heat.mode = .setbackAuto then .run else s.heat.mode)
       ∧ woken = { s with
           ports := woken.ports, heat.mode := woken.heat.mode, heat.zones := woken.heat.zones
           lastHeat.mode := woken.lastHeat.mode })
    ∧ (∀ (s : State) (p : PortId) (b : Byte) (r : Area), areaOf b = some r →
       (∀ u i rep, (s.permit.areas.get r).holder = some u → Ready s p i →
           ((i = .areaLeave p b ∧ s.roleOf p = u.role ∧ rep = ⟨.ok, []⟩)
             ∨ (i = .forceLeave p b ∧ rep = ⟨.ok, [.area (some u)]⟩)) →
           let enterable := s.permit.shuttleGrant = none
             ∧ (r = .press → s.permit.press = .open ∧ s.permit.closeGrant = none)
           let number : Int := match r with | .press => 1 | .load => 2
           ∃ t, exec i s = .next t
             ∧ t.permit.areas = s.permit.areas.set r
                 (if (s.permit.areas.get r).waiter ≠ none ∧ enterable then
                   ⟨(s.permit.areas.get r).waiter, none⟩
                  else ⟨none, (s.permit.areas.get r).waiter⟩)
             ∧ t.eject = (if r = .load ∧ u = .extract ∧ s.eject.state = .active then
                   { s.eject with state := .stopped, cause := .areaReleased } else s.eject)
             ∧ (t.ports.get p).buffer = .processing i (some rep)
             ∧ (let forced := if i = .forceLeave p b then
                  s.postAll ⟨.areaForced, none, none, number,
                    match u with | .loader => 2 | .extract => 3⟩
                else s
                let granted := match (s.permit.areas.get r).waiter with
                  | some v => if enterable then
                      forced.postRole v.role ⟨.areaGranted, none, none, number, 0⟩
                    else forced
                  | none => forced
                t.ports = (granted.answer p i rep).ports)
             ∧ t = { s with ports := t.ports, permit.areas := t.permit.areas, eject := t.eject,
                            heat.idleTimer := t.heat.idleTimer })
         ∧ (∀ u, Ready s p (.areaLeave p b) → s.roleOf p = u.role →
             (s.permit.areas.get r).holder ≠ some u →
             ((s.permit.areas.get r).waiter = some u →
                 Answers (.areaLeave p b) s p
                   { s with permit.areas :=
                       s.permit.areas.set r { s.permit.areas.get r with waiter := none } }
                   ⟨.cancelled, []⟩)
               ∧ ((s.permit.areas.get r).waiter ≠ some u →
                   TurnsAway (.areaLeave p b) s p ⟨.notHolder, []⟩))
         ∧ (Ready s p (.forceLeave p b) → (s.permit.areas.get r).holder = none →
             TurnsAway (.forceLeave p b) s p ⟨.ok, [.area none]⟩))

/-- R125: the waiter of an area is never its holder, and no station has a claim on both areas. -/
def Obligations.AreaLawIsKept : Prop :=
  ∀ (s t : State), AreaLaw s → step s = .next t → AreaLaw t

/-! ### Shots (R12 to R23) -/

/-- R14, R15, R67: CHARGE BEGIN: the wake rule first, then the checks in their order, then the shot.
`AnswersEnding` covers the close grant that a woken heat mode may cost. -/
def Obligations.ChargeBeginOpensAShot : Prop :=
  ∀ (s : State) (p : PortId) (b : Byte), Ready s p (.chargeBegin p b) → BindLaw s →
    (bayOf b = none → TurnsAway (.chargeBegin p b) s p ⟨.invalid, []⟩)
      ∧ ∀ y, bayOf b = some y →
        let woken := if s.heat.mode = .setbackAuto then s.setMode .run else s
        let code : Option ResultCode :=
          if s.slots.get y ≠ none then some .wrongStage
          else if s.permit.position.outBay ≠ some y then some .notOut
          else if (s.bays.get y).mouldId = 0 then some .notBound
          else if s.serial = none then some .serialUnset
          else if s.serial = some 4294967295 then some .serialExhausted
          else if 512 ≤ s.history.pending + s.openShots then some .historyFull
          else if s.lowerDue y then some .releaseDue
          else if s.heat.parkPending then some .parking
          else if s.heat.mode = .setback then some .heatSetback
          else if s.heat.mode = .off then some .heatOff
          else none
        (∀ c, code = some c → AnswersEnding (.chargeBegin p b) s p woken ⟨c, []⟩)
          ∧ (code = none → ∃ n i r, s.serial = some n ∧ (s.bays.get y).recipeSlot = some i
              ∧ (s.recipes.get i).recipe = some r
              ∧ AnswersEnding (.chargeBegin p b) s p
                  (State.postSubs
                    { woken with
                      serial := some (n + 1)
                      recipes := s.recipes.set i
                        { s.recipes.get i with inUse := (s.recipes.get i).inUse + 1 }
                      slots := s.slots.set y (some {
                        serial := n, bay := y, recipeSlot := i, recipeNumber := r.number
                        recipeRevision := (s.recipes.get i).revision
                        mouldId := (s.bays.get y).mouldId, stage := .charging
                        pieces := [], chargeTotal := 0, discards := 0, dose := 0
                        closedDuration := 0, minCureTemp := none, maxZoneTemp := none
                        pressPeak := none, demouldPeak := none
                        exceptions := if s.clock.uncertain then [.timeUncertain] else []
                        openedAt := ⟨s.clock.time, s.clock.uncertain⟩
                        chargedAt := none, closedAt := none, curedAt := none
                        pressOpenedAt := none, ejectedAt := none }) }
                    ⟨.shotStage, some y, some n, 1, 0⟩)
                  ⟨.ok, [.num n]⟩)

/-- R12, R13: SERIAL BASE, and the law of the serials. -/
def Obligations.SerialLawIsKept : Prop :=
  (∀ (s : State) (p : PortId) (x : BitVec 32), Ready s p (.serialBase p x) →
      (s.serial = none → 1 ≤ x.toNat → x.toNat ≤ 4294967294 →
        Answers (.serialBase p x) s p { s with serial := some x.toNat } ⟨.ok, [.num x.toNat]⟩)
      ∧ ((s.serial ≠ none ∨ x.toNat < 1 ∨ 4294967294 < x.toNat) →
        TurnsAway (.serialBase p x) s p ⟨.invalid, []⟩))
    ∧ ∀ (s t : State), SerialLaw s → step s = .next t → SerialLaw t

/-- R31 to R34, R2, R94, R133: the bays' bindings, the in-use counts, the contexts of the open
shots, the ejection and the pending weigh stay in step with one another. -/
def Obligations.ShotLawsAreKept : Prop :=
  ∀ (s t : State), BindLaw s → UseLaw s → ContextLaw s → EjectLaw s → WeighLaw s →
    step s = .next t → BindLaw t ∧ UseLaw t ∧ ContextLaw t ∧ EjectLaw t ∧ WeighLaw t

/-- R17, R145: the refusals of SHOT ABORT and PART TAKEN. R17, R18, R20 to R23, R36, R69, R119, R150:
the ones that are accepted file the shot: the record and its slot, the counts, what the filing does to
the weigh, the ejection, the close grant (with its cause) and the heat, a pending park completed
included. R22, R23, R127, R160: the near-full flag, the promotion, and, where the close law holds, the
notices of a filing in their order. That the open shots of HISTORY_NEAR_FULL do not count the shot that
is filed is the model's choice (notes/assumptions/10), and so is an order that no rule gives
(notes/assumptions/18). -/
def Obligations.FilingMovesTheShotToTheStore : Prop :=
  (∀ (s : State) (p : PortId) (b c : Byte),
    (Ready s p (.shotAbort p b) →
      (bayOf b = none → TurnsAway (.shotAbort p b) s p ⟨.invalid, []⟩)
        ∧ ∀ y, bayOf b = some y → s.slots.get y = none →
          TurnsAway (.shotAbort p b) s p ⟨.wrongStage, []⟩)
      ∧ (Ready s p (.partTaken p b c) →
        ((bayOf b = none ∨ (c ≠ 1#8 ∧ c ≠ 2#8)) →
            TurnsAway (.partTaken p b c) s p ⟨.invalid, []⟩)
          ∧ ∀ y, bayOf b = some y → (c = 1#8 ∨ c = 2#8) →
            (s.shotStage y ≠ some .ejected →
                TurnsAway (.partTaken p b c) s p ⟨.wrongStage, []⟩)
              ∧ (s.shotStage y = some .ejected →
                (s.permit.areas.get .load).holder ≠ some .extract →
                TurnsAway (.partTaken p b c) s p ⟨.areaRequired, []⟩)))
  ∧ ∀ (s : State) (p : PortId) (i : Instr) (b : Byte) (y : Bay) (sh : Shot) (o : ShotOutcome)
    (es : List Exc), Ready s p i → bayOf b = some y → s.slots.get y = some sh →
    ((i = .partTaken p b 1#8 ∧ sh.stage = .ejected ∧ o = .completed
          ∧ (s.permit.areas.get .load).holder = some .extract ∧ es = sh.exceptions)
      ∨ (i = .partTaken p b 2#8 ∧ sh.stage = .ejected ∧ o = .completed
          ∧ (s.permit.areas.get .load).holder = some .extract
          ∧ es = insertExc .partDamaged sh.exceptions)
      ∨ (i = .shotAbort p b ∧ o = .aborted ∧ es = insertExc .aborted sh.exceptions)) →
    let aborted := o = .aborted
    let ejecting := s.eject.state ≠ .idle ∧ s.eject.bay = some y
    ∃ t rec, exec i s = .next t
      ∧ rec.filingNo = s.history.filingCounter + 1
      ∧ rec.shot = { sh with
          exceptions := es
          demouldPeak := if aborted ∧ ejecting then some s.eject.peak else sh.demouldPeak }
      ∧ rec.outcome = o ∧ rec.verdict = verdictOf es
      ∧ rec.disposition = none ∧ rec.dispositionAt = none
      ∧ rec.exported = false ∧ rec.amended = false
      ∧ (s.history.slots.length < 512 → t.history.slots = s.history.slots ++ [rec])
      ∧ (∀ pre x post, 512 ≤ s.history.slots.length → s.history.slots = pre ++ x :: post →
          x.exported = true → x.amended = false →
          (∀ z ∈ pre ++ post, z.exported = true → z.amended = false → x.filingNo < z.filingNo) →
          t.history.slots = pre ++ rec :: post)
      ∧ t.history.filingCounter = s.history.filingCounter + 1
      ∧ t.history.pending = s.history.pending + 1
      ∧ t.history.armed = decide (s.history.pending + 1 < 448)
      ∧ t.slots = s.slots.set y none ∧ t.cureMarks = s.cureMarks.set y none
      ∧ t.recipes = s.recipes.set sh.recipeSlot
          { s.recipes.get sh.recipeSlot with inUse := (s.recipes.get sh.recipeSlot).inUse - 1 }
      ∧ t.upperCount
          = (if sh.closedAt = none then s.upperCount else min 65535 (s.upperCount + 1))
      ∧ t.bays = (if sh.closedAt = none then s.bays else s.bays.set y { s.bays.get y with
          lowerCount := min 65535 ((s.bays.get y).lowerCount + 1)
          shotsOnBinding := min 4294967295 ((s.bays.get y).shotsOnBinding + 1) })
      ∧ t.heat.mode
          = (if s.heat.parkPending ∧ s.slots.get y.other = none then .off else s.heat.mode)
      ∧ t.heat.parkPending = (s.heat.parkPending && (s.slots.get y.other).isSome)
      ∧ t.weigh = (if aborted ∧ s.weigh.slot = .weigh y then
          { s.weigh with slot := .none, timer := none } else s.weigh)
      ∧ t.eject = (if aborted ∧ ejecting then Eject.start else s.eject)
      ∧ (aborted → s.permit.closeGrant = some y → t.permit.closeGrant = none)
      ∧ (t.permit.closeGrant = s.permit.closeGrant ∨ t.permit.closeGrant = none)
      ∧ (let parks := s.heat.parkPending = true ∧ s.slots.get y.other = none
         let due := sh.closedAt ≠ none ∧ s.upperDue = false ∧ t.upperDue = true
         let revoked := fun (g : Bay) (n : Nat) (cause : Int) => RolesLaw s →
           ∀ q, s.roleOf q = .press → (s.ports.get q).queue.length ≤ 5 →
             ∃ x ∈ (t.ports.get q).queue, x.notice = ⟨.closeRevoked, some g, some n, cause, 0⟩
         (¬parks → t.heat = { s.heat with idleTimer := t.heat.idleTimer }
             ∧ t.lastHeat = s.lastHeat)
           ∧ (parks → t.lastHeat = ⟨if s.heat.mode = .off then s.lastHeat.mode else .off, false⟩
             ∧ t.heat = { s.heat with
                 mode := .off, parkPending := false, zones := t.heat.zones, idleTimer := 0 }
             ∧ ∀ z, t.heat.zones.get z =
                 let x := s.heat.zones.get z
                 if s.heat.mode = .off then x
                 else if x.state = .off then { x with target := none, atTemp := false }
                 else { x with
                   state := .off, target := none, effective := none, rampAcc := 0
                   integrator := 0, requested := 0, invalidCount := 0, validCount := 0
                   limited := false, atTemp := false })
           ∧ (aborted → s.permit.closeGrant = some y →
               revoked y sh.serial (if parks ∧ s.heat.mode = .run then 3 else 4))
           ∧ (∀ g sg, s.permit.closeGrant = some g → g ≠ y → s.slots.get g = some sg → due →
               revoked g sg.serial 7)
           ∧ (¬(aborted ∧ s.permit.closeGrant = some y) → ¬parks →
               t.permit.closeGrant = if due then none else s.permit.closeGrant)
           ∧ PromotedByGrantsEnd s t
           ∧ (let reply : Reply := ⟨.ok,
                [.num sh.serial, .num (verdictOf es).code] ++ if aborted then [] else [.num 0]⟩
              CloseLaw s → t.ports = (State.answer (s.sends
                [sentIf (aborted ∧ s.weigh.slot = .weigh y)
                    [(.station .loader, ⟨.weighCancelled, some y, some sh.serial, 2, 0⟩)],
                  sentIf (aborted ∧ s.permit.closeGrant = some y)
                    (s.closeEnd (if parks ∧ s.heat.mode = .run then 3 else 4)),
                  sentIf (s.history.armed = true ∧ 448 ≤ s.history.pending + 1)
                    [(.station .line, ⟨.historyNearFull, none, none, (s.history.pending + 1 : Nat),
                      if s.slots.get y.other = none then 0 else 1⟩)],
                  s.filingNotices y sh s.upperCount
                    (match verdictOf es with | .accept => 0 | .hold => 1 | .reject => 2)
                    (if aborted then 1 else 0)
                    (sentIf (due ∧ ¬(aborted ∧ s.permit.closeGrant = some y)) (s.closeEnd 7)),
                  sentIf parks (sentIf (s.heat.mode ≠ .off)
                      [(.subscribed, ⟨.heatMode, none, none, 3, s.heat.mode.code⟩)]
                    ++ [(.station .line, ⟨.parked, none, none, 0, 0⟩)]),
                  s.areaGrants t]) p i reply).ports))
      ∧ (t.ports.get p).buffer = .processing i (some ⟨.ok,
          [.num sh.serial, .num (verdictOf es).code] ++ if aborted then [] else [.num 0]⟩)
      ∧ t = { s with
          ports := t.ports, slots := t.slots, cureMarks := t.cureMarks, recipes := t.recipes
          history := t.history, upperCount := t.upperCount, bays := t.bays, heat := t.heat
          lastHeat := t.lastHeat, weigh := t.weigh, eject := t.eject
          permit.closeGrant := t.permit.closeGrant, permit.areas := t.permit.areas }

/-! ### Recipes and moulds (R26 to R38) -/

/-- R26: the values a RECIPE WRITE carries and the values that would be stored, field by field. R27 to
R29: RECIPE WRITE and RECIPE ERASE. That the erase of an EMPTY slot answers OK without data
is the model's choice (notes/assumptions/19). -/
def Obligations.RecipeRequestsChangeFreeSlots : Prop :=
  (∀ f : RawRecipe,
    receivedRecipe f = {
      number := f.number.toNat
      upper := Quad.ofFn fun i => (f.upper.get i).toInt
      mould := Quad.ofFn fun i => (f.mould.get i).toInt
      readyBand := f.readyBand.toNat, overTemp := f.overTemp.toInt, cureRef := f.cureRef.toInt
      cureTarget := f.cureTarget.toNat, minClosed := f.minClosed.toNat
      maxClosed := f.maxClosed.toNat, overstay := f.overstay.toNat
      chargeTarget := f.chargeTarget.toNat, tolLow := f.tolLow.toNat, tolHigh := f.tolHigh.toNat
      maxPieces := f.maxPieces.toNat, minPressForce := f.minPressForce.toNat
      demouldLimit := f.demouldLimit.toNat, abortLimit := f.abortLimit.toNat
      ejectTimeout := f.ejectTimeout.toNat, lowerInterval := f.lowerInterval.toNat
      upperInterval := f.upperInterval.toNat }
    ∧ storedRecipe f = { receivedRecipe f with
      upper := Quad.ofFn fun i => max 0 (min 4000 (f.upper.get i).toInt)
      mould := Quad.ofFn fun i => max 0 (min 4000 (f.mould.get i).toInt)
      readyBand := max 10 (min 200 (f.readyBand.toNat : Int))
      overTemp := max 0 (min 4500 f.overTemp.toInt)
      cureRef := max 0 (min 4000 f.cureRef.toInt)
      cureTarget := max 1 (min 3600 f.cureTarget.toNat)
      minClosed := min 7200 f.minClosed.toNat
      maxClosed := max 1 (min 7200 f.maxClosed.toNat)
      overstay := max 1 (min 7200 f.overstay.toNat)
      chargeTarget := min 799992 f.chargeTarget.toNat
      maxPieces := max 1 (min 8 f.maxPieces.toNat)
      ejectTimeout := max 1 (min 120 f.ejectTimeout.toNat) })
  ∧ ∀ (s : State) (p : PortId) (b : Byte),
    (slotOf b = none →
      (∀ f : RawRecipe, Ready s p (.recipeWrite p b f) →
          TurnsAway (.recipeWrite p b f) s p ⟨.invalid, [.num 1]⟩)
        ∧ (Ready s p (.recipeErase p b) → TurnsAway (.recipeErase p b) s p ⟨.invalid, []⟩))
    ∧ ∀ i : Ix16, slotOf b = some i →
    (∀ f : RawRecipe, Ready s p (.recipeWrite p b f) →
      let r := storedRecipe f
      let x := s.recipes.get i
      let refused : Option Reply :=
        if f.number = 0#16 then some ⟨.invalid, [.num 1]⟩
        else if x.inUse ≠ 0 then some ⟨.inUse, []⟩
        else if ∃ j, j ∈ Ix16.all ∧ j ≠ i
            ∧ (s.recipes.get j).recipe.map Recipe.number = some f.number.toNat then
          some ⟨.invalid, [.num 3]⟩
        else if r.maxClosed < r.minClosed then some ⟨.invalid, [.num 4]⟩
        else if r.abortLimit ≤ r.demouldLimit then some ⟨.invalid, [.num 5]⟩
        else if r.chargeTarget < r.tolLow then some ⟨.invalid, [.num 6]⟩
        else none
      (∀ rep, refused = some rep → TurnsAway (.recipeWrite p b f) s p rep)
        ∧ (refused = none → ∃ t, exec (.recipeWrite p b f) s = .next t
            ∧ t.recipes = s.recipes.set i
                { recipe := some r, inUse := x.inUse
                  revision := if x.revision < 65535 then x.revision + 1 else 1 }
            ∧ t.heat.zones = (State.rederiveZones { s with recipes := t.recipes }).heat.zones
            ∧ t.permit.closeGrant
                = (State.rederiveZones { s with recipes := t.recipes }).permit.closeGrant
            ∧ (t.ports.get p).buffer = .processing (.recipeWrite p b f)
                (some ⟨.ok, .flag (decide (r ≠ receivedRecipe f))
                  :: .num (t.recipes.get i).revision :: r.fields⟩)
            ∧ AnswersEnding (.recipeWrite p b f) s p
                (State.rederiveZones { s with recipes := t.recipes })
                ⟨.ok, .flag (decide (r ≠ receivedRecipe f))
                  :: .num (t.recipes.get i).revision :: r.fields⟩
            ∧ t = { s with
                ports := t.ports, recipes := t.recipes, heat.zones := t.heat.zones
                heat.idleTimer := t.heat.idleTimer, permit.closeGrant := t.permit.closeGrant
                permit.areas := t.permit.areas }))
      ∧ (Ready s p (.recipeErase p b) →
        ((s.recipes.get i).inUse ≠ 0 → TurnsAway (.recipeErase p b) s p ⟨.inUse, []⟩)
          ∧ ((s.recipes.get i).inUse = 0 →
            ((∃ y, (s.bays.get y).recipeSlot = some i) →
                TurnsAway (.recipeErase p b) s p ⟨.bound, []⟩)
            ∧ ((∀ y, (s.bays.get y).recipeSlot ≠ some i) →
                Answers (.recipeErase p b) s p
                  { s with recipes := s.recipes.set i { s.recipes.get i with recipe := none } }
                  ⟨.ok, if (s.recipes.get i).recipe = none then []
                    else [.num (s.recipes.get i).revision]⟩)))

/-- R31: while its in-use count is not 0, a slot keeps its recipe and its revision, whatever the
step; only a cold start, which empties the table, is left out. -/
def Obligations.RecipeIsFixedWhileInUse : Prop :=
  ∀ (s t : State) (i : Ix16), (s.recipes.get i).inUse ≠ 0 → s.phase ≠ .starting .cold →
    step s = .next t →
    (t.recipes.get i).recipe = (s.recipes.get i).recipe
      ∧ (t.recipes.get i).revision = (s.recipes.get i).revision

/-- R33, R34, R38: BAY BIND, whose new mould clears a mould check with HOLD_CHANGED, and BAY UNBIND.
That BAY UNBIND answers OK without data is the model's choice (notes/assumptions/19). -/
def Obligations.BindingNeedsAnEmptyBay : Prop :=
  (∀ (s : State) (p : PortId) (b k : Byte) (m : BitVec 16), Ready s p (.bayBind p b m k) →
    (bayOf b = none ∨ slotOf k = none ∨ m = 0#16) →
    TurnsAway (.bayBind p b m k) s p ⟨.invalid, []⟩)
  ∧ (∀ (s : State) (p : PortId) (b : Byte), Ready s p (.bayUnbind p b) → bayOf b = none →
    TurnsAway (.bayUnbind p b) s p ⟨.invalid, []⟩)
  ∧ ∀ (s : State) (p : PortId) (b : Byte) (y : Bay), bayOf b = some y →
    (∀ (m : BitVec 16) (k : Byte) (j : Ix16), Ready s p (.bayBind p b m k) → m ≠ 0#16 →
        slotOf k = some j →
        (s.slots.get y ≠ none → TurnsAway (.bayBind p b m k) s p ⟨.wrongStage, []⟩)
          ∧ (s.slots.get y = none → ((s.recipes.get j).recipe = none
                ∨ (s.bays.get y.other).mouldId = m.toNat) →
              TurnsAway (.bayBind p b m k) s p ⟨.invalid, []⟩)
          ∧ (s.slots.get y = none → (s.recipes.get j).recipe ≠ none →
              (s.bays.get y.other).mouldId ≠ m.toNat →
              ∃ t, exec (.bayBind p b m k) s = .next t
                ∧ t.bays = s.bays.set y
                    (if (s.bays.get y).mouldId = m.toNat then
                      { s.bays.get y with recipeSlot := some j }
                     else ⟨m.toNat, some j, 0, 0, false⟩)
                ∧ (s.permit.selfHolds.mouldCheck.get y = (s.bays.get y).mouldCheck →
                    t.permit.selfHolds.mouldCheck
                      = s.permit.selfHolds.mouldCheck.set y (t.bays.get y).mouldCheck)
                ∧ t.heat.zones = (State.rederiveZones { s with bays := t.bays }).heat.zones
                ∧ t.permit.closeGrant
                    = (State.rederiveZones { s with bays := t.bays }).permit.closeGrant
                ∧ (t.ports.get p).buffer = .processing (.bayBind p b m k)
                    (some ⟨.ok, [.num m.toNat, .num j.toNat, .num (t.bays.get y).shotsOnBinding,
                      .num (t.bays.get y).lowerCount, .flag (t.bays.get y).mouldCheck]⟩)
                ∧ (let bound : State := { s with bays := t.bays }
                   let checked : State := { bound with
                     permit.selfHolds.mouldCheck := s.permit.selfHolds.mouldCheck.set y false }
                   AnswersEnding (.bayBind p b m k) s p
                    (State.rederiveZones
                      (if (s.bays.get y).mouldId ≠ m.toNat ∧ (s.bays.get y).mouldCheck = true then
                        checked.postSubs ⟨.holdChanged, some y, none, 2, checked.holds.length⟩
                       else bound))
                    ⟨.ok, [.num m.toNat, .num j.toNat, .num (t.bays.get y).shotsOnBinding,
                      .num (t.bays.get y).lowerCount, .flag (t.bays.get y).mouldCheck]⟩)
                ∧ t = { s with
                    ports := t.ports, bays := t.bays, heat.zones := t.heat.zones
                    heat.idleTimer := t.heat.idleTimer
                    permit.selfHolds.mouldCheck := t.permit.selfHolds.mouldCheck
                    permit.closeGrant := t.permit.closeGrant, permit.areas := t.permit.areas }))
      ∧ (Ready s p (.bayUnbind p b) →
        (s.slots.get y ≠ none → TurnsAway (.bayUnbind p b) s p ⟨.wrongStage, []⟩)
          ∧ (s.slots.get y = none → (s.bays.get y).mouldId = 0 →
              TurnsAway (.bayUnbind p b) s p ⟨.ok, []⟩)
          ∧ (s.slots.get y = none → (s.bays.get y).mouldId ≠ 0 →
              ∃ t, exec (.bayUnbind p b) s = .next t
                ∧ t.bays = s.bays.set y { s.bays.get y with mouldId := 0, recipeSlot := none }
                ∧ t.heat.zones = (State.rederiveZones { s with bays := t.bays }).heat.zones
                ∧ t.permit.closeGrant
                    = (State.rederiveZones { s with bays := t.bays }).permit.closeGrant
                ∧ (t.ports.get p).buffer = .processing (.bayUnbind p b) (some ⟨.ok, []⟩)
                ∧ AnswersEnding (.bayUnbind p b) s p (State.rederiveZones { s with bays := t.bays })
                    ⟨.ok, []⟩
                ∧ t = { s with
                    ports := t.ports, bays := t.bays, heat.zones := t.heat.zones
                    heat.idleTimer := t.heat.idleTimer
                    permit.closeGrant := t.permit.closeGrant, permit.areas := t.permit.areas }))

/-- R37, R38: RELEASE APPLIED and MOULD CHECKED. -/
def Obligations.MouldCareClearsItsMarks : Prop :=
  ∀ (s : State) (p : PortId) (b : Byte),
    (Ready s p (.releaseApplied p b) →
      (releaseTargetOf b = none → TurnsAway (.releaseApplied p b) s p ⟨.invalid, []⟩)
      ∧ (∀ y, releaseTargetOf b = some (.lower y) →
        ((s.permit.position.outBay ≠ some y ∨ s.slots.get y ≠ none) →
            TurnsAway (.releaseApplied p b) s p ⟨.wrongStage, []⟩)
        ∧ (s.permit.position.outBay = some y → s.slots.get y = none → s.roleOf p = .extract →
            (s.permit.areas.get .load).holder ≠ some .extract →
            TurnsAway (.releaseApplied p b) s p ⟨.areaRequired, []⟩)
        ∧ (s.permit.position.outBay = some y → s.slots.get y = none →
            (s.roleOf p = .extract → (s.permit.areas.get .load).holder = some .extract) →
            Answers (.releaseApplied p b) s p
              { s with bays := s.bays.set y { s.bays.get y with lowerCount := 0 } }
              ⟨.ok, [.num (s.bays.get y).lowerCount]⟩))
      ∧ (releaseTargetOf b = some .upper →
        (s.roleOf p = .extract → (s.permit.areas.get .press).holder ≠ some .extract →
            TurnsAway (.releaseApplied p b) s p ⟨.areaRequired, []⟩)
        ∧ ((s.roleOf p = .extract → (s.permit.areas.get .press).holder = some .extract) →
            Answers (.releaseApplied p b) s p { s with upperCount := 0 }
              ⟨.ok, [.num s.upperCount]⟩)))
    ∧ (Ready s p (.mouldChecked p b) → bayOf b = none →
        TurnsAway (.mouldChecked p b) s p ⟨.invalid, []⟩)
    ∧ (Ready s p (.mouldChecked p b) → ∀ y, bayOf b = some y →
        ((s.bays.get y).mouldCheck = false →
            TurnsAway (.mouldChecked p b) s p ⟨.ok, [.flag false]⟩)
        ∧ ((s.bays.get y).mouldCheck = true → s.permit.selfHolds.mouldCheck.get y = true →
            Answers (.mouldChecked p b) s p
              (State.postSubs
                { s with
                  bays := s.bays.set y { s.bays.get y with mouldCheck := false }
                  permit.selfHolds.mouldCheck := s.permit.selfHolds.mouldCheck.set y false }
                ⟨.holdChanged, some y, none, 2, s.holds.length - 1⟩)
              ⟨.ok, [.flag true]⟩))

/-! ### The charge (R88 to R107) -/

/-- R94, R97, R98, R100, R101, R96: WEIGH PIECE, TARE, WEIGH CANCEL and WEIGH_TIMER_EXPIRY. What the
PENDING reply carries of a weigh or a tare that the channel W cannot serve is the model's choice
(notes/assumptions/19). -/
def Obligations.WeighSlotIsTakenAndFreed : Prop :=
  ∀ (s : State) (p : PortId) (b : Byte),
    let free : Weigh := { s.weigh with slot := .none, timer := none }
    (Ready s p (.weighPiece p b) →
      (bayOf b = none → TurnsAway (.weighPiece p b) s p ⟨.invalid, []⟩)
      ∧ ∀ y, bayOf b = some y →
        (s.weigh.slot ≠ .none → TurnsAway (.weighPiece p b) s p ⟨.busy, []⟩)
        ∧ (s.weigh.slot = .none → s.shotStage y ≠ some .charging →
            TurnsAway (.weighPiece p b) s p ⟨.wrongStage, []⟩)
        ∧ ∀ sh r, s.weigh.slot = .none → s.slots.get y = some sh → sh.stage = .charging →
            s.shotRecipe sh = some r →
            (r.maxPieces ≤ sh.pieces.length → TurnsAway (.weighPiece p b) s p ⟨.full, []⟩)
            ∧ (sh.pieces.length < r.maxPieces →
                (s.deadNode .w = none → Answers (.weighPiece p b) s p
                  { s with
                    channels.w := ⟨[], 0⟩
                    weigh := ⟨.weigh y, some s.cfg.weighTimeout, s.weigh.tare⟩ }
                  ⟨.pending, [.bay y, .num sh.serial, .num (sh.pieces.length + 1)]⟩)
                ∧ ∀ a, s.deadNode .w = some a → Answers (.weighPiece p b) s p
                  (State.postRole { s with channels.w := ⟨[], 0⟩, weigh := free } .loader
                    ⟨.weighFault, some y, some sh.serial, a, 0⟩)
                  ⟨.pending, [.bay y, .num sh.serial, .num (sh.pieces.length + 1)]⟩))
      ∧ (Ready s p (.tare p) →
        (s.weigh.slot ≠ .none → TurnsAway (.tare p) s p ⟨.busy, []⟩)
        ∧ (s.weigh.slot = .none → s.deadNode .w = none → Answers (.tare p) s p
            { s with
              channels.w := ⟨[], 0⟩
              weigh := ⟨.tare (s.roleOf p), some s.cfg.weighTimeout, s.weigh.tare⟩ }
            ⟨.pending, []⟩)
        ∧ ∀ a, s.weigh.slot = .none → s.deadNode .w = some a → Answers (.tare p) s p
            (State.postRole { s with channels.w := ⟨[], 0⟩, weigh := free } (s.roleOf p)
              ⟨.tareFailed, none, none, 2, 0⟩)
            ⟨.pending, []⟩)
      ∧ (Ready s p (.weighCancel p) →
        (∀ y sh, s.weigh.slot = .weigh y → s.slots.get y = some sh → Answers (.weighCancel p) s p
            (State.postRole { s with weigh := free } .loader
              ⟨.weighCancelled, some y, some sh.serial, 1, 0⟩)
            ⟨.ok, [.bay y, .num sh.serial]⟩)
        ∧ ((∀ y, s.weigh.slot ≠ .weigh y) →
            TurnsAway (.weighCancel p) s p ⟨.wrongStage, []⟩))
      ∧ (s.phase = .running → s.weigh.timer.isSome = true →
        (∀ y sh, s.weigh.slot = .weigh y → s.slots.get y = some sh →
          exec .weighTimerExpiry s = .next (State.idleSettled
            (State.postRole { s with weigh := free } .loader
              ⟨.weighUnstable, some y, some sh.serial, s.channels.w.arrivals, s.spreadW⟩)))
        ∧ ∀ r, s.weigh.slot = .tare r →
          exec .weighTimerExpiry s = .next (State.idleSettled
            (State.postRole { s with weigh := free } r ⟨.tareFailed, none, none, 1, 0⟩)))
      ∧ (s.deadNode .w = none ↔
          ∃ n, s.cfg.loadMap.w = some n ∧ (s.sensor.nodes.get n).state ≠ .missing)

/-- R88, R89, R95, R101: a sample of the scale's node arrives: an unstable window changes nothing in
the slot; a stable one captures the weight of a pending weigh or completes a pending tare. -/
def Obligations.StableWindowCaptures : Prop :=
  ∀ (s : State) (n : Ix16) (rep : NodeReply) (x : LoadSample), s.phase = .running →
    s.sensor.polling = some n → s.cfg.nodeKinds.get n = .load → s.cfg.loadMap.w = some n →
    (s.sensor.nodes.get n).state ≠ .missing → GoodReply rep n → rep.data = .load x →
    let q := (if s.channels.w.queue.length < 16 then s.channels.w.queue
      else s.channels.w.queue.drop 1) ++ [x]
    let size := s.cfg.channels.w.window
    let ws := q.drop (q.length - size)
    let stable := size ≤ q.length ∧ (∀ u ∈ ws, u.overrange = false)
      ∧ ∀ u ∈ ws, ∀ v ∈ ws, u.count.toInt - v.count.toInt ≤ s.cfg.bands.w
    let s1 : State := { s with
      channels.w := ⟨q, min 65535 (s.channels.w.arrivals + 1)⟩
      sensor := ⟨s.sensor.nodes.set n { s.sensor.nodes.get n with state := .ok, misses := 0 },
        nextNode s.cfg.nodeKinds n⟩ }
    let gross := s1.grossWeight
    let net := gross - s.weigh.tare
    let s2 : State := { s1 with weigh := { s.weigh with slot := .none, timer := none } }
    let ended := fun t : State => exec (.pollReply rep) s = .next t.idleSettled
    ((¬stable ∨ s.weigh.slot = .none) → ended s1)
      ∧ (∀ r, stable → s.weigh.slot = .tare r →
          ended (State.postRole { s2 with weigh.tare := gross } r
            ⟨.tareDone, none, none, gross, s.weigh.tare⟩))
      ∧ ∀ y sh, stable → s.weigh.slot = .weigh y → s.slots.get y = some sh →
          (s.cfg.capacity < net →
            ended (s2.postRole .loader ⟨.overload, some y, some sh.serial, net, 0⟩))
          ∧ (net ≤ s.cfg.capacity → net < s.cfg.minPiece →
            ended (s2.postRole .loader ⟨.pieceTooLight, some y, some sh.serial, net, 0⟩))
          ∧ (net ≤ s.cfg.capacity → s.cfg.minPiece ≤ net →
            ended (State.postRole
              { s2 with
                slots := s.slots.set y (some { sh with
                  pieces := sh.pieces
                    ++ [⟨sh.pieces.length + 1, net, ⟨s.clock.time, s.clock.uncertain⟩⟩]
                  chargeTotal := sh.chargeTotal + net
                  exceptions := if s.clock.uncertain then insertExc .timeUncertain sh.exceptions
                    else sh.exceptions }) }
              .loader ⟨.weighDone, some y, some sh.serial, net, sh.pieces.length + 1⟩))

/-- R104 to R106: REMOVE PIECE, DISCARD CHARGE and CHARGE DONE. -/
def Obligations.PieceListRequests : Prop :=
  ∀ (s : State) (p : PortId) (i : Instr) (b : Byte), Ready s p i →
    (i = .removePiece p b ∨ i = .discardCharge p b ∨ i = .chargeDone p b) →
    (bayOf b = none → TurnsAway i s p ⟨.invalid, []⟩)
    ∧ ∀ y, bayOf b = some y →
    (s.shotStage y ≠ some .charging → TurnsAway i s p ⟨.wrongStage, []⟩)
      ∧ ∀ sh, s.slots.get y = some sh → sh.stage = .charging →
          (s.weigh.slot = .weigh y → TurnsAway i s p ⟨.busy, []⟩)
          ∧ (s.weigh.slot ≠ .weigh y → sh.pieces = [] → TurnsAway i s p ⟨.empty, []⟩)
          ∧ ∀ pre x r, s.weigh.slot ≠ .weigh y → sh.pieces = pre ++ [x] →
              s.shotRecipe sh = some r →
              (i = .removePiece p b → Answers i s p
                { s with
                  slots := s.slots.set y
                    (some { sh with pieces := pre, chargeTotal := sh.chargeTotal - x.net }) }
                ⟨.ok, [.num x.number, .num x.net, .num pre.length,
                  .num (sh.chargeTotal - x.net)]⟩)
              ∧ (i = .discardCharge p b → Answers i s p
                { s with
                  slots := s.slots.set y (some { sh with
                    pieces := [], chargeTotal := 0, discards := min 65535 (sh.discards + 1)
                    exceptions := insertExc .chargeDiscarded sh.exceptions }) }
                ⟨.ok, [.num sh.pieces.length, .num sh.chargeTotal,
                  .num (min 65535 (sh.discards + 1) : Nat)]⟩)
              ∧ (i = .chargeDone p b →
                let low := (r.chargeTarget : Int) - r.tolLow
                let high := (r.chargeTarget : Int) + r.tolHigh
                (sh.chargeTotal < low → TurnsAway i s p
                  ⟨.under, [.num sh.chargeTotal, .num low, .num high, .num sh.pieces.length]⟩)
                ∧ (low ≤ sh.chargeTotal → high < sh.chargeTotal → TurnsAway i s p
                  ⟨.over, [.num sh.chargeTotal, .num low, .num high, .num sh.pieces.length]⟩)
                ∧ (low ≤ sh.chargeTotal → sh.chargeTotal ≤ high → Answers i s p
                  (State.postSubs
                    { s with
                      slots := s.slots.set y (some { sh with
                        stage := .charged
                        chargedAt := some ⟨s.clock.time, s.clock.uncertain⟩
                        exceptions :=
                          if s.clock.uncertain then insertExc .timeUncertain sh.exceptions
                          else sh.exceptions }) }
                    ⟨.shotStage, some y, some sh.serial, 2, 1⟩)
                  ⟨.ok, [.num sh.chargeTotal, .num sh.pieces.length]⟩))

/-- R103, R107. The premises are the laws of the bays' shots, of the ejection and of the pending
weigh, each stated as kept on its own. -/
def Obligations.ChargeLawIsKept : Prop :=
  ∀ (s t : State), WeighLaw s → UseLaw s → ContextLaw s → EjectLaw s → ChargeLaw s →
    step s = .next t → ChargeLaw t

/-! ### Demoulding (R134 to R144) -/

/-- R134, R135: EJECT BEGIN. -/
def Obligations.EjectionBeginsOnAnOpenedShot : Prop :=
  ∀ (s : State) (p : PortId) (b : Byte), Ready s p (.ejectBegin p b) →
    (bayOf b = none → TurnsAway (.ejectBegin p b) s p ⟨.invalid, []⟩)
      ∧ ∀ y, bayOf b = some y →
        (s.eject.state ≠ .idle → TurnsAway (.ejectBegin p b) s p ⟨.busy,
            [Field.optBay s.eject.bay, Field.optNat s.eject.serial,
              .num (match s.eject.state with | .idle => 0 | .active => 1 | .stopped => 2),
              .num s.eject.peak, .num s.eject.cause.code]⟩)
        ∧ (s.eject.state = .idle → s.shotStage y ≠ some .opened →
            TurnsAway (.ejectBegin p b) s p ⟨.wrongStage, []⟩)
        ∧ ∀ sh r, s.eject.state = .idle → s.slots.get y = some sh → sh.stage = .opened →
            s.shotRecipe sh = some r →
            (s.permit.position.outBay ≠ some y → TurnsAway (.ejectBegin p b) s p ⟨.notOut, []⟩)
            ∧ (s.permit.position.outBay = some y →
              ((s.permit.areas.get .load).holder ≠ some .extract →
                  TurnsAway (.ejectBegin p b) s p ⟨.areaRequired, []⟩)
              ∧ ((s.permit.areas.get .load).holder = some .extract →
                (s.deadNode (forceChan y) = none → Answers (.ejectBegin p b) s p
                  { s with
                    channels := s.channels.set (forceChan y) ⟨[], 0⟩
                    eject := ⟨.active, some y, some sh.serial, 0, .none, some r.ejectTimeout⟩ }
                  ⟨.ok, [.bay y, .num sh.serial, .num r.ejectTimeout, .num 1]⟩)
                ∧ ∀ a, s.deadNode (forceChan y) = some a → Answers (.ejectBegin p b) s p
                  (State.postAll
                    { s with
                      channels := s.channels.set (forceChan y) ⟨[], 0⟩
                      eject :=
                        ⟨.stopped, some y, some sh.serial, 0, .forceBlind, some r.ejectTimeout⟩
                      slots := s.slots.set y
                        (some { sh with exceptions := insertExc .forceBlind sh.exceptions }) }
                    ⟨.forceBlind, some y, some sh.serial, a, 0⟩)
                  ⟨.ok, [.bay y, .num sh.serial, .num r.ejectTimeout, .num 2]⟩))

/-- R136, R137: a force sample arrives for the bay that is ejecting: the peak rises to it; the abort
limit or OVERRANGE stops an ACTIVE ejection; a STOPPED one only raises its peak. R91, R137: with the
record IDLE, or on the other bay, the sample is queued and nothing else comes of it. -/
def Obligations.OverforceStopsTheEjection : Prop :=
  ∀ (s : State) (n : Ix16) (rep : NodeReply) (x : LoadSample) (y : Bay),
    s.phase = .running → s.sensor.polling = some n → s.cfg.nodeKinds.get n = .load →
    s.channelOf n = some (forceChan y) → (s.sensor.nodes.get n).state ≠ .missing →
    GoodReply rep n → rep.data = .load x →
    let c := s.channels.get (forceChan y)
    let s1 : State := { s with
      channels := s.channels.set (forceChan y)
        ⟨(if c.queue.length < 16 then c.queue else c.queue.drop 1) ++ [x],
          min 65535 (c.arrivals + 1)⟩
      sensor := ⟨s.sensor.nodes.set n { s.sensor.nodes.get n with state := .ok, misses := 0 },
        nextNode s.cfg.nodeKinds n⟩ }
    let force := s1.forceValue y
    let ended := fun t : State => exec (.pollReply rep) s = .next t.idleSettled
    ((s.eject.state = .idle ∨ s.eject.bay ≠ some y) → ended s1)
    ∧ ∀ (sh : Shot) (r : Recipe), s.eject.state ≠ .idle → s.eject.bay = some y →
      s.slots.get y = some sh → s.shotRecipe sh = some r →
      ((s.eject.state = .stopped ∨ (force < r.abortLimit ∧ x.overrange = false)) →
        ended { s1 with eject.peak := max s.eject.peak force })
      ∧ (s.eject.state = .active → (r.abortLimit ≤ force ∨ x.overrange = true) →
        ended (State.postAll
          { s1 with
            eject := { s.eject with
              state := .stopped, cause := .overforce, peak := max s.eject.peak force }
            slots := s.slots.set y
              (some { sh with exceptions := insertExc .ejectOverforce sh.exceptions }) }
          ⟨.ejectOverforce, some y, s.eject.serial, force, if x.overrange then 1 else 0⟩))

/-- R141: the refusals of EJECT END, where another bay code answers INVALID and not WRONG_STAGE by the
model's choice (notes/assumptions/27), and its reply, whose added exceptions come by ascending number by
the model's choice (notes/assumptions/19). R142 to R144: EJECT END and the ejection timer's expiry close
the ejection: the peak goes to the shot, the sticking judgement marks the shot and the mould, and the
shot becomes EJECTED; the alarm of an expiry, HOLD_CHANGED and CLOSE_REVOKED of the mould check, and
SHOT_STAGE to 6 from the stage it had, which EjectLaw says is OPENED (5). -/
def Obligations.EjectionClosesTheShot : Prop :=
  (∀ (s : State) (p : PortId) (b : Byte), Ready s p (.ejectEnd p b) →
    (bayOf b = none → TurnsAway (.ejectEnd p b) s p ⟨.invalid, []⟩)
      ∧ ∀ y, bayOf b = some y → (s.eject.state = .idle ∨ s.eject.bay ≠ some y) →
        TurnsAway (.ejectEnd p b) s p ⟨.wrongStage, []⟩)
  ∧ ∀ (s : State) (p : PortId) (b : Byte) (y : Bay) (sh : Shot) (r : Recipe) (i : Instr),
    s.eject.state ≠ .idle → s.eject.bay = some y → s.slots.get y = some sh →
    s.shotRecipe sh = some r →
    ((i = .ejectEnd p b ∧ bayOf b = some y ∧ Ready s p i)
      ∨ (i = .ejectionTimerExpiry ∧ s.phase = .running ∧ s.eject.timer.isSome = true)) →
    let sticks := r.demouldLimit < s.eject.peak ∧ s.eject.cause ≠ .overforce
    let e1 := if sticks then insertExc .sticking sh.exceptions else sh.exceptions
    let e2 := if i = .ejectionTimerExpiry then insertExc .ejectTimeout e1 else e1
    let e3 := if s.clock.uncertain then insertExc .timeUncertain e2 else e2
    let checks := sticks ∧ (s.bays.get y).mouldCheck = false
    let reply : Reply := ⟨.ok,
      [Field.optNat s.eject.serial, .num s.eject.peak, .num s.eject.cause.code]
        ++ (e3.filter fun e => decide (e ∉ sh.exceptions)).map fun e => .num e.number⟩
    ∃ t, exec i s = .next t
      ∧ t.eject = ⟨.idle, none, none, 0, .none, none⟩
      ∧ t.slots = s.slots.set y (some { sh with
          stage := .ejected
          ejectedAt := some ⟨s.clock.time, s.clock.uncertain⟩
          demouldPeak := some s.eject.peak
          exceptions := e3 })
      ∧ t.bays = (if sticks then s.bays.set y { s.bays.get y with mouldCheck := true }
          else s.bays)
      ∧ t.permit.selfHolds = (if sticks ∧ (s.bays.get y).mouldCheck = false then
          { s.permit.selfHolds with mouldCheck := s.permit.selfHolds.mouldCheck.set y true }
          else s.permit.selfHolds)
      ∧ t.permit.closeGrant = (if sticks ∧ (s.bays.get y).mouldCheck = false
            ∧ s.permit.closeGrant = some y then none else s.permit.closeGrant)
      ∧ PromotedByGrantsEnd s t
      ∧ (let told := s.sends
          [sentIf (i = .ejectionTimerExpiry) [(.every, ⟨.ejectTimeout, some y, s.eject.serial,
              s.eject.peak,
              match s.eject.state with | .idle => 0 | .active => 1 | .stopped => 2⟩)],
            sentIf checks [(.subscribed, ⟨.holdChanged, some y, none, 1, t.holds.length⟩)],
            sentIf (checks ∧ s.permit.closeGrant = some y) (s.closeEnd 1),
            [(.subscribed, ⟨.shotStage, some y, some sh.serial, 6, sh.stage.code⟩)],
            s.areaGrants t]
         (i = .ejectionTimerExpiry → t.ports = told.ports)
           ∧ (i = .ejectEnd p b → t.ports = (told.answer p i reply).ports))
      ∧ (i = .ejectEnd p b → (t.ports.get p).buffer = .processing i (some reply))
      ∧ t = { s with
          ports := t.ports, slots := t.slots, bays := t.bays, eject := t.eject
          heat.idleTimer := t.heat.idleTimer, permit.selfHolds := t.permit.selfHolds
          permit.closeGrant := t.permit.closeGrant, permit.areas := t.permit.areas }

/-! ### Heat (R55 to R70) -/

/-- R44, R45: each zone's setpoint source and target; R43, R45, R63, R119: every zone derived again, a
disabled one with its target too, and the close grant that a cleared at-temperature flag withdraws. The
flags judged again are those of the zones that changed (`rederiveZones`) or, at a change of mode, all.
R64, R119: a change of the heat mode; that HEAT_MODE comes before CLOSE_REVOKED on the PRESS port is the
model's order (notes/assumptions/18). R65, R68 to R70: HEAT MODE, PARK, ZONE ENABLE and ZONE DISABLE,
whose replies give the enabled flags by ascending zone number by the model's choice
(notes/assumptions/19). -/
def Obligations.HeatRequestsSetModeAndZones : Prop :=
  (∀ s : State,
    (∀ y r, s.bayRecipe y = some r ↔ ((s.bays.get y).mouldId ≠ 0
        ∧ ∃ i, (s.bays.get y).recipeSlot = some i ∧ (s.recipes.get i).recipe = some r))
    ∧ (∀ z y, s.zoneSource z = some y ↔ (s.bayRecipe y ≠ none ∧ match z.grp with
        | .bayA => y = .a
        | .bayB => y = .b
        | .upper => s.permit.position = Position.ofIn y
          ∨ ((∀ x, s.permit.position = Position.ofIn x → s.bayRecipe x = none)
            ∧ (y = .a ∨ s.bayRecipe .a = none))))
    ∧ (∀ z, ((s.heat.mode = .off ∨ s.zoneSource z = none) → s.zoneTarget z = none)
        ∧ ∀ y r, s.heat.mode ≠ .off → s.zoneSource z = some y → s.bayRecipe y = some r →
          let point := match z.grp with
            | .upper => r.upper.get z.ix
            | .bayA => r.mould.get z.ix
            | .bayB => r.mould.get z.ix
          let setback := if z.grp = .upper then s.cfg.setbackUpper else s.cfg.setbackMould
          s.zoneTarget z = some (if s.heat.mode = .run then point else min point setback))
    ∧ s.rederiveZones = s.deriveZones false
    ∧ (∀ always : Bool, ∃ zs cg po, s.deriveZones always
          = { s with heat.zones := zs, permit.closeGrant := cg, ports := po }
        ∧ (∀ z, let x := s.heat.zones.get z
            let d : Zone := { x with target := s.zoneTarget z }
            let y := if x.enabled = false ∨ s.heat.mode = .off then
                if x.state = .off then d
                else { d with
                  state := .off, effective := none, rampAcc := 0, integrator := 0, requested := 0
                  invalidCount := 0, validCount := 0, limited := false }
              else match x.state, s.zoneTarget z with
                | .off, none => { d with state := .idle }
                | .off, some _ => { d with
                    state := .ramp, effective := none, rampAcc := 0, integrator := 0 }
                | .idle, none => d
                | .idle, some _ => { d with
                    state := .ramp, effective := none, rampAcc := 0, integrator := 0 }
                | .fault, _ => d
                | .ramp, some _ => d
                | .regulate, some _ => if d.target = x.target then d else { d with state := .ramp }
                | _, none => { d with
                    state := .idle, effective := none, rampAcc := 0, integrator := 0
                    requested := 0 }
            let near := match x.latest, y.target, (s.zoneSource z).bind s.bayRecipe with
              | some v, some g, some r => decide (((v - g).natAbs : Int) ≤ r.readyBand)
              | _, _, _ => false
            (Zones.get zs z) = { y with
              atTemp := if y.state = x.state ∧ y.target = x.target ∧ always = false then x.atTemp
                else decide (y.state = .regulate) && near })
        ∧ (s.permit.closeGrant = none → cg = none ∧ po = s.ports)
        ∧ ∀ y, s.permit.closeGrant = some y →
            let lost := (curingZones y).filter fun z =>
              (s.heat.zones.get z).atTemp && !(Zones.get zs z).atTemp
            (lost = [] → cg = some y ∧ po = s.ports)
              ∧ ∀ z rest, lost = z :: rest → cg = none
                ∧ (∀ x ∈ rest, z.number < x.number)
                ∧ po = (s.postRole .press
                  ⟨.closeRevoked, some y, (s.slots.get y).map Shot.serial, 2, z.number⟩).ports)
    ∧ ∀ m, s.setMode m = if s.heat.mode = m then s else
        let told := State.postSubs { s with heat.mode := m, lastHeat.mode := m }
          ⟨.heatMode, none, none, m.code, s.heat.mode.code⟩
        match s.permit.closeGrant with
        | none => told.deriveZones true
        | some y => if s.heat.mode = .run then
            State.deriveZones (State.postRole { told with permit.closeGrant := none } .press
              ⟨.closeRevoked, some y, (s.slots.get y).map Shot.serial, 3, 0⟩) true
          else told.deriveZones true)
  ∧ ∀ (s : State) (p : PortId) (b : Byte),
    (Ready s p (.heatMode p b) →
      (heatModeOf b = none → TurnsAway (.heatMode p b) s p
          ⟨.ok, [.num s.heat.mode.code, .flag s.heat.parkPending]⟩)
      ∧ ∀ m, heatModeOf b = some m → ∃ t, exec (.heatMode p b) s = .next t
          ∧ t.heat.mode = m ∧ t.heat.parkPending = false
          ∧ (s.lastHeat = ⟨s.heat.mode, s.heat.parkPending⟩ → t.lastHeat = ⟨m, false⟩)
          ∧ (s.heat.mode = .run → m ≠ .run → t.permit.closeGrant = none)
          ∧ (s.heat.mode = m → t.heat.zones = s.heat.zones
              ∧ t.permit.closeGrant = s.permit.closeGrant)
          ∧ (let unparked := if s.heat.parkPending then
               State.postRole { s with heat.parkPending := false, lastHeat.park := false } .line
                 ⟨.parkCancelled, none, none, 0, 0⟩
               else s
             AnswersEnding (.heatMode p b) s p (unparked.setMode m)
               ⟨.ok, [.num m.code, .flag false]⟩)
          ∧ (t.ports.get p).buffer
              = .processing (.heatMode p b) (some ⟨.ok, [.num m.code, .flag false]⟩)
          ∧ t = { s with
              ports := t.ports, heat := t.heat, lastHeat := t.lastHeat
              permit.closeGrant := t.permit.closeGrant, permit.areas := t.permit.areas })
    ∧ (Ready s p (.park p) →
      (s.heat.parkPending = true → TurnsAway (.park p) s p ⟨.pending, []⟩)
      ∧ (s.heat.parkPending = false → s.slots = ⟨none, none⟩ → ∃ t, exec (.park p) s = .next t
          ∧ t.heat.mode = .off ∧ t.heat.parkPending = false
          ∧ (t.ports.get p).buffer = .processing (.park p) (some ⟨.ok, []⟩)
          ∧ AnswersEnding (.park p) s p
              ((s.setMode .off).postRole .line ⟨.parked, none, none, 0, 0⟩) ⟨.ok, []⟩
          ∧ t = { s with
              ports := t.ports, heat := t.heat, lastHeat := t.lastHeat
              permit.closeGrant := t.permit.closeGrant, permit.areas := t.permit.areas })
      ∧ (s.heat.parkPending = false → s.slots ≠ ⟨none, none⟩ → Answers (.park p) s p
          { s with heat.parkPending := true, lastHeat.park := true } ⟨.pending, []⟩))
    ∧ ∀ (i : Instr) (v : Bool), Ready s p i →
      ((i = .zoneEnable p b ∧ v = true) ∨ (i = .zoneDisable p b ∧ v = false)) →
      ∃ t d, exec i s = .next t
        ∧ (∀ z : ZoneId, (t.heat.zones.get z).enabled
            = if z.number = b.toNat ∨ 11 < b.toNat then v else (s.heat.zones.get z).enabled)
        ∧ (∀ z : ZoneId, (t.heat.zones.get z).enabled = false →
            (t.heat.zones.get z).state = .off)
        ∧ (∀ z : ZoneId, (t.heat.zones.get z).enabled = true → s.heat.mode ≠ .off →
            (t.heat.zones.get z).state ≠ .off)
        ∧ (∀ z : ZoneId, (t.heat.zones.get z).granted = (s.heat.zones.get z).granted)
        ∧ d = ZoneId.all.map (fun z => Field.flag (t.heat.zones.get z).enabled)
        ∧ (∃ zs : Zones Zone, (∀ z, zs.get z = { s.heat.zones.get z with
                enabled := if z.number = b.toNat ∨ 11 < b.toNat then v
                  else (s.heat.zones.get z).enabled })
            ∧ AnswersEnding i s p (State.rederiveZones { s with heat.zones := zs }) ⟨.ok, d⟩)
        ∧ (t.ports.get p).buffer = .processing i (some ⟨.ok, d⟩)
        ∧ t = { s with
            ports := t.ports, heat.zones := t.heat.zones, heat.idleTimer := t.heat.idleTimer
            permit.closeGrant := t.permit.closeGrant, permit.areas := t.permit.areas }

/-- R48 to R54, R63: one heat period, zone by zone: take-up with FAULT and recovery, ramp, PI and the
at-temperature judgement, the fresh flags that take-up clears and its notices, whose order among
several zones is the model's choice (notes/assumptions/18); the ramp's steps are in the closed form the
model takes (notes/assumptions/21). R82, R83, R62, R119, R127: the notices of the cure steps (bay A's
before bay B's by the model's choice, notes/assumptions/18), CLOSE_REVOKED with the lowest curing zone
whose flag the period cleared, and AREA_GRANTED. R55 to R58, R60, R61: the sums, which stand as defined
in WARNING too by the model's reading (notes/assumptions/17), and the granted duties, which meet the
budget: the scaled ones, and above the share the first stage of the trim that fits, `left m c` being
the duties after m whole passes from the highest zone down and a last one that reached zone c. The
heater lines follow them, and nothing outside the heat, cure, link and permit blocks has changed but
the shots; a line goes off within the period only where its duty is below 1000. R66, R67: the idle
timer, and its expiry, which the model takes as a command of its own (notes/assumptions/16) that does
nothing before the top (notes/assumptions/8). -/
def Obligations.HeatPeriodMeetsTheBudget : Prop :=
  (∀ s : State, s.phase = .running → ∃ t, exec .heatPeriod s = .next t
      ∧ BudgetLaw t ∧ (∀ z, t.heaterOn z = decide ((t.heat.zones.get z).granted ≠ 0))
      ∧ (∀ z, (t.heat.zones.get z).granted ≤ (t.heat.zones.get z).requested
          ∧ (t.heat.zones.get z).requested ≤ max 1000 (s.heat.zones.get z).requested)
      ∧ (∀ z, (t.heat.zones.get z).limited
          = (decide (s.supply = .normal)
              && decide ((t.heat.zones.get z).granted < (t.heat.zones.get z).requested)))
      ∧ t.heat.mode = s.heat.mode
      ∧ t = { s with
          ports := t.ports, heat := t.heat, slots := t.slots, cureMarks := t.cureMarks
          sensor := t.sensor, permit.closeGrant := t.permit.closeGrant
          permit.areas := t.permit.areas }
      ∧ t.heat.parkPending = s.heat.parkPending
      ∧ t.heat.idleTimer
          = (if t.idleRuns then min (s.heat.idleTimer + 1) (60 * s.cfg.idleLimit) else 0)
      ∧ (∀ y, s.permit.closeGrant = some y → t.permit.closeGrant =
          if (curingZones y).any
              (fun z => (s.heat.zones.get z).atTemp && !(t.heat.zones.get z).atTemp) then none
          else some y)
      ∧ (s.permit.closeGrant = none → t.permit = s.permit)
      ∧ t.sensor.polling = s.sensor.polling
      ∧ (∀ n, ∃ ch : Quad TempChannel,
          t.sensor.nodes.get n = { s.sensor.nodes.get n with channels := ch }
          ∧ ∀ i, ((∃ z, s.cfg.zoneMap.get z = some ⟨n, i⟩) →
                ch.get i = { (s.sensor.nodes.get n).channels.get i with fresh := false })
              ∧ ((∀ z, s.cfg.zoneMap.get z ≠ some ⟨n, i⟩) →
                ch.get i = (s.sensor.nodes.get n).channels.get i))
      ∧ (let sample := fun z : ZoneId => match s.cfg.zoneMap.get z with
           | none => none
           | some m =>
             if ((s.sensor.nodes.get m.node).channels.get m.channel).fresh then
               ((s.sensor.nodes.get m.node).channels.get m.channel).latest
             else none
         let value := fun z : ZoneId => match sample z with
           | none => none
           | some (x : TempSample) =>
             if x.status = .ok ∧ -500 ≤ x.value ∧ x.value ≤ 4500 then some x.value else none
         let counted : ZoneId → Zone := fun z =>
           let x : Zone := { s.heat.zones.get z with
             latest := if (value z).isSome then value z else (s.heat.zones.get z).latest
             validNow := (value z).isSome }
           if x.state = .off then x
           else if (value z).isSome then
             { x with validCount := min 255 (x.validCount + 1), invalidCount := 0 }
           else { x with invalidCount := min 255 (x.invalidCount + 1), validCount := 0 }
         let faults : ZoneId → Bool := fun z => decide ((counted z).state ≠ .off
           ∧ (counted z).state ≠ .fault
           ∧ 3 ≤ (counted z).invalidCount)
         let recovers : ZoneId → Bool := fun z =>
           decide ((counted z).state = .fault ∧ 8 ≤ (counted z).validCount)
         let taken : ZoneId → Zone := fun z => if faults z then
             { counted z with
               state := .fault, requested := 0, integrator := 0, effective := none, rampAcc := 0
               atTemp := false }
           else if recovers z then
             if (counted z).target = none then { counted z with state := .idle }
             else { counted z with
               state := .ramp, effective := (counted z).latest, integrator := 0, rampAcc := 0 }
           else counted z
         let active := fun x : Zone => x.state = .ramp ∨ x.state = .regulate
         let stepped : ZoneId → Zone := fun z => if recovers z then taken z else
           match (taken z).effective, (taken z).target with
           | none, _ => if (taken z).validNow then
               { taken z with effective := (taken z).latest, rampAcc := 0 } else taken z
           | some _, none => taken z
           | some e, some g => if e = g then taken z
             else if s.cfg.rampLimit = 0 then { taken z with effective := some g, rampAcc := 0 }
             else
               let sum := (taken z).rampAcc + s.cfg.rampLimit
               let k := min (sum / 60) (g - e).natAbs
               { taken z with
                 effective := some (if e < g then e + k else e - k)
                 rampAcc := if k = (g - e).natAbs then 0 else sum - 60 * k }
         let ramped : ZoneId → Zone := fun z => if active (taken z) then
             { stepped z with
               state := if (stepped z).effective ≠ none
                   ∧ (stepped z).effective = (stepped z).target then .regulate else .ramp }
           else taken z
         let near : ZoneId → Bool := fun z => match (ramped z).latest, (ramped z).target,
             (s.zoneSource z).bind s.bayRecipe with
           | some v, some g, some r => decide (((v - g).natAbs : Int) ≤ r.readyBand)
           | _, _, _ => false
         let judged : ZoneId → Zone := fun z => { ramped z with
           atTemp := decide ((ramped z).state = .regulate) && near z }
         let gains := fun z : ZoneId => if z.grp = .upper then s.cfg.upperGains else s.cfg.mouldGains
         let asked : ZoneId → Zone := fun z =>
           if ¬active (judged z) then { judged z with requested := 0 } else
           match (judged z).effective, (judged z).latest with
           | none, _ => { judged z with requested := 0 }
           | some _, none => judged z
           | some e, some v =>
             if (judged z).validNow = false then judged z
             else if s.cfg.cutback ≤ v then { judged z with requested := 0 }
             else
               let err := max (-1000) (min 1000 (e - v))
               let duty := (max 0 (min 1000
                 (((gains z).kp * err + (judged z).integrator) / 256))).toNat
               let held := (duty = 1000 ∧ 0 < err) ∨ (duty = 0 ∧ err < 0)
                 ∨ ((s.heat.zones.get z).limited = true ∧ 0 < err) ∨ s.supply = .warning
               { judged z with
                 requested := duty
                 integrator := if held then (judged z).integrator
                   else max 0 (min 256000 ((judged z).integrator + (gains z).ki * err)) }
         (∀ z, t.heat.zones.get z = { asked z with
             granted := (t.heat.zones.get z).granted, limited := (t.heat.zones.get z).limited })
           ∧ (let told := ZoneId.all.foldl (fun (w : State) z =>
                if faults z then w.postAll ⟨.zoneFault, none, none, z.number,
                  match sample z with
                  | none => 1
                  | some x => if x.status = .open then 2 else 3⟩
                else if recovers z then w.postSubs ⟨.zoneRecovered, none, none, z.number, 0⟩
                else w) s
              let cured := fun y : Bay => match s.slots.get y, t.slots.get y with
                | some a, some b => sentIf (a.stage = .closed ∧ b.stage = .cured)
                    [(.subscribed, ⟨.shotStage, some y, some a.serial, 4, 3⟩),
                      (.station .press, ⟨.cured, some y, some a.serial, b.closedDuration,
                        match s.shotRecipe a with
                        | some r =>
                          if r.cureTarget * 256 ≤ b.dose ∧ r.minClosed ≤ b.closedDuration then 0
                          else 1
                        | none => 1⟩)]
                | _, _ => []
              let revoked := match s.permit.closeGrant with
                | none => []
                | some y => match (curingZones y).filter fun z =>
                      (s.heat.zones.get z).atTemp && !(t.heat.zones.get z).atTemp with
                  | [] => []
                  | z :: _ => s.closeEnd 2 z.number
              t.ports = (told.sends [cured .a, cured .b, revoked, s.areaGrants t]).ports))
      ∧ PromotedByGrantsEnd s t
      ∧ (let first := fun z : ZoneId => match z.grp with
           | .upper => true
           | .bayA => decide (s.permit.position = .aIn)
           | .bayB => decide (s.permit.position = .bIn)
         let power := fun (duty : ZoneId → Nat) (f : ZoneId → Bool) =>
           ((ZoneId.all.filter f).map fun z => duty z * s.cfg.ratings.get z / 1000).sum
         let requested := fun z => (t.heat.zones.get z).requested
         let granted := fun z => (t.heat.zones.get z).granted
         let sum1 := power requested first
         let sum2 := power requested (fun z => !first z)
         let shares := fun (f : ZoneId → Bool) (share sum : Nat) =>
           (sum ≤ share → ∀ z, f z = true → granted z = requested z)
             ∧ (share < sum →
               let scaled := fun z => requested z * share / sum
               power granted f ≤ share ∧ (∀ z, f z = true → granted z ≤ scaled z)
                 ∧ (power scaled f ≤ share → ∀ z, f z = true → granted z = scaled z)
                 ∧ (let left := fun (m c : Nat) (z : ZoneId) =>
                      scaled z - (if c ≤ z.number then m + 1 else m)
                    ∃ m c, c ≤ 12 ∧ (∀ z, f z = true → granted z = left m c z)
                      ∧ ∀ m' c', c' ≤ 12 → (m' < m ∨ (m' = m ∧ c < c')) →
                        share < power (left m' c') f))
         t.heat.sum1 = sum1 ∧ t.heat.sum2 = sum2
           ∧ t.heat.totalGranted = power granted (fun _ => true)
           ∧ (s.supply = .normal → shares first s.cfg.budget sum1
             ∧ (sum1 ≤ s.cfg.budget → shares (fun z => !first z) (s.cfg.budget - sum1) sum2)
             ∧ (s.cfg.budget < sum1 → ∀ z, first z = false → granted z = 0))))
    ∧ ∀ s : State, s.phase = .running →
      (∀ z, (s.heat.zones.get z).granted < 1000 → exec (.heaterSwitchOff z) s
          = .next { s with
              heat.lines := s.heat.lines.set z false
              heat.idleTimer := if s.idleRuns then s.heat.idleTimer else 0 })
      ∧ (∀ z, 1000 ≤ (s.heat.zones.get z).granted →
          exec (.heaterSwitchOff z) s = .next s.idleSettled)
      ∧ (s.idleRuns = true → 60 * s.cfg.idleLimit ≤ s.heat.idleTimer →
          ∃ t, exec .idleTimerExpiry s = .next t
            ∧ t.heat.mode = .setbackAuto ∧ t.lastHeat.mode = .setbackAuto ∧ t.heat.idleTimer = 0
            ∧ t = { s with
                ports := t.ports, heat.mode := .setbackAuto, heat.zones := t.heat.zones
                heat.idleTimer := 0, lastHeat.mode := .setbackAuto }
            ∧ t = State.setMode { s with heat.idleTimer := 0 } .setbackAuto)
      ∧ ((s.idleRuns = false ∨ s.heat.idleTimer < 60 * s.cfg.idleLimit) →
          exec .idleTimerExpiry s = .next s.idleSettled)

/-- R59, R75 to R84: the cure step that ends a heat period, for the shot of a bay in CLOSED or CURED:
its counts, its temperatures, its stage, its cure mark, and exactly the exceptions it gains. Its notices
are stated by HeatPeriodMeetsTheBudget. -/
def Obligations.CureStepCountsAndCures : Prop :=
  ∀ (s : State) (y : Bay) (sh : Shot) (r : Recipe), s.phase = .running →
    s.slots.get y = some sh → (sh.stage = .closed ∨ sh.stage = .cured) →
    s.shotRecipe sh = some r →
    ∃ t sh', exec .heatPeriod s = .next t ∧ t.slots.get y = some sh'
      ∧ sh'.closedDuration = min 65535 (sh.closedDuration + 1)
      ∧ ((∃ z ∈ curingZones y, (t.heat.zones.get z).validNow = false
            ∨ (t.heat.zones.get z).state = .fault) →
          sh'.dose = sh.dose ∧ sh'.minCureTemp = sh.minCureTemp
            ∧ sh'.maxZoneTemp = sh.maxZoneTemp ∧ .cureBlind ∈ sh'.exceptions)
      ∧ (∀ temps : List Int,
          (∀ z ∈ curingZones y, (t.heat.zones.get z).validNow = true
            ∧ (t.heat.zones.get z).state ≠ .fault) →
          (curingZones y).map (fun z => (t.heat.zones.get z).latest) = temps.map some →
          ∀ low high, low ∈ temps → high ∈ temps → (∀ v ∈ temps, low ≤ v ∧ v ≤ high) →
            sh'.dose = min 4294967295 (sh.dose + rateFactor s.cfg.rateTable (low - r.cureRef))
              ∧ sh'.minCureTemp = some (sh.minCureTemp.elim low (min · low))
              ∧ sh'.maxZoneTemp = some (sh.maxZoneTemp.elim high (max · high))
              ∧ (r.overTemp < high → .overtemp ∈ sh'.exceptions))
      ∧ (let byDose := r.cureTarget * 256 ≤ sh'.dose ∧ r.minClosed ≤ sh'.closedDuration
         let byTime := r.maxClosed ≤ sh'.closedDuration
         (sh.stage = .closed →
            sh'.stage = (if byDose ∨ byTime then .cured else .closed)
            ∧ (¬byDose → byTime → .undercure ∈ sh'.exceptions)
            ∧ (byDose ∨ byTime → t.cureMarks.get y = some sh'.closedDuration
                ∧ sh'.curedAt = some ⟨s.clock.time, s.clock.uncertain⟩))
         ∧ (sh.stage = .cured → sh'.stage = .cured
            ∧ ∀ mark, s.cureMarks.get y = some mark → t.cureMarks.get y = some mark
                ∧ (mark + r.overstay ≤ sh'.closedDuration → .overstay ∈ sh'.exceptions))
         ∧ (¬(sh.stage = .closed ∧ (byDose ∨ byTime)) →
              sh'.curedAt = sh.curedAt ∧ t.cureMarks.get y = s.cureMarks.get y)
         ∧ (let limited := (curingZones y).any fun z => (t.heat.zones.get z).limited
            let blind := (curingZones y).any fun z =>
              !(t.heat.zones.get z).validNow || (t.heat.zones.get z).state == .fault
            let hot := (curingZones y).any fun z =>
              match (t.heat.zones.get z).latest with
              | some v => decide (r.overTemp < v)
              | none => false
            let late := match s.cureMarks.get y with
              | some mark => decide (mark + r.overstay ≤ sh'.closedDuration)
              | none => false
            let e1 := if s.permit.position.inBay = some y ∧ sh.stage = .closed ∧ limited = true
              then insertExc .powerLimited sh.exceptions else sh.exceptions
            let e2 := if blind then insertExc .cureBlind e1
              else if hot then insertExc .overtemp e1 else e1
            sh'.exceptions = if sh.stage = .cured then
                if late then insertExc .overstay e2 else e2
              else if byDose ∨ byTime then
                let e3 := if byDose then e2 else insertExc .undercure e2
                if s.clock.uncertain then insertExc .timeUncertain e3 else e3
              else e2))
      ∧ sh' = { sh with
          stage := sh'.stage, closedDuration := sh'.closedDuration, dose := sh'.dose
          minCureTemp := sh'.minCureTemp, maxZoneTemp := sh'.maxZoneTemp
          exceptions := sh'.exceptions, curedAt := sh'.curedAt }

/-! ### The history store (R147 to R160) -/

/-- R152, R154, R157, R160: the export head, the record that carries a serial, HISTORY ACK and
DISPOSITION SET with their replies and the near-full flag, and HISTORY_NEAR_FULL where a re-queueing
brings the pending count to 448 with the flag armed; an acknowledgement, where the armed law holds,
queues nothing. -/
def Obligations.HistoryRequestsMarkRecords : Prop :=
  (∀ s : State,
      (s.history.head = none ↔ ∀ r ∈ s.history.slots, r.isPending = false)
      ∧ ∀ j r, s.history.head = some (j, r) → s.history.slots[j]? = some r
          ∧ r.isPending = true
          ∧ ∀ x ∈ s.history.slots, x.isPending = true → r.filingNo ≤ x.filingNo)
    ∧ (∀ (s : State) (n : Nat),
      (s.history.find n = none ↔ ∀ r ∈ s.history.slots, r.shot.serial ≠ n)
      ∧ ∀ j r, s.history.find n = some (j, r) → s.history.slots[j]? = some r
          ∧ r.shot.serial = n ∧ ∀ x ∈ s.history.slots.take j, x.shot.serial ≠ n)
    ∧ (∀ (s : State) (p : PortId) (n : BitVec 32), Ready s p (.historyAck p n) →
      (s.history.head = none → TurnsAway (.historyAck p n) s p ⟨.empty, []⟩)
      ∧ ∀ j r, s.history.head = some (j, r) →
          (r.shot.serial ≠ n.toNat →
            TurnsAway (.historyAck p n) s p ⟨.mismatch, [.num r.shot.serial]⟩)
          ∧ (r.shot.serial = n.toNat → ∃ t, exec (.historyAck p n) s = .next t
              ∧ t.history.slots
                  = s.history.slots.set j { r with exported := true, amended := false }
              ∧ t.history.pending = s.history.pending - 1
              ∧ t.history.filingCounter = s.history.filingCounter
              ∧ t.history.armed = decide (t.history.pending < 448)
              ∧ (t.ports.get p).buffer = .processing (.historyAck p n)
                  (some ⟨.ok, [.num n.toNat,
                    Field.optNat (t.history.head.map fun x => x.2.shot.serial),
                    .num t.history.pending]⟩)
              ∧ (ArmedLaw s → t.ports = (s.answer p (.historyAck p n)
                  ⟨.ok, [.num n.toNat,
                    Field.optNat (t.history.head.map fun x => x.2.shot.serial),
                    .num t.history.pending]⟩).ports)
              ∧ t = { s with
                  ports := t.ports, history := t.history
                  heat.idleTimer := t.heat.idleTimer }))
    ∧ ∀ (s : State) (p : PortId) (n : BitVec 32) (b : Byte),
      Ready s p (.dispositionSet p n b) →
      (dispositionOf b = none → TurnsAway (.dispositionSet p n b) s p ⟨.invalid, []⟩)
      ∧ ∀ d, dispositionOf b = some d →
      (s.history.find n.toNat = none → TurnsAway (.dispositionSet p n b) s p ⟨.notFound, []⟩)
      ∧ ∀ j r, s.history.find n.toNat = some (j, r) →
          let taken := r.exported = true ∧ r.amended = false
          let code : Option ResultCode :=
            if r.verdict ≠ .hold then some .invalid
            else if r.disposition ≠ none then some .alreadySet
            else if taken ∧ 512 ≤ s.history.pending + s.openShots then some .historyFull
            else none
          let reply := fun t : State => (⟨.ok, [.num r.shot.serial,
            .num (match d with | .accepted => 1 | .rejected => 2),
            .num s.clock.time.toNat, .flag s.clock.uncertain,
            .num (if r.exported then 1 else 0), .flag (r.exported || r.amended),
            .num t.history.pending]⟩ : Reply)
          (∀ c, code = some c → TurnsAway (.dispositionSet p n b) s p ⟨c, []⟩)
          ∧ (code = none → ∃ t, exec (.dispositionSet p n b) s = .next t
              ∧ s.history.slots[j]? = some r ∧ r.shot.serial = n.toNat
              ∧ t.history.slots = s.history.slots.set j { r with
                  disposition := some d
                  dispositionAt := some ⟨s.clock.time, s.clock.uncertain⟩
                  amended := r.exported || r.amended }
              ∧ t.history.pending
                  = (if taken then s.history.pending + 1 else s.history.pending)
              ∧ t.history.filingCounter = s.history.filingCounter
              ∧ t.history.armed = (if taken then decide (t.history.pending < 448)
                  else s.history.armed)
              ∧ (t.ports.get p).buffer = .processing (.dispositionSet p n b)
                  (some (reply t))
              ∧ t.ports = (State.answer (s.sends
                  [sentIf (taken ∧ s.history.armed = true ∧ 448 ≤ s.history.pending + 1)
                    [(.station .line, ⟨.historyNearFull, none, none, (s.history.pending + 1 : Nat),
                      s.openShots⟩)]]) p (.dispositionSet p n b) (reply t)).ports
              ∧ t = { s with
                  ports := t.ports, history := t.history
                  heat.idleTimer := t.heat.idleTimer })

/-- R159, with the counts and the numbers it rests on (R147 to R150); and R160: while the part runs
the near-full flag says whether the pending count is below 448. -/
def Obligations.StoreLawIsKept : Prop :=
  (∀ (s t : State), StoreLaw s → step s = .next t → StoreLaw t)
    ∧ (∀ (s t : State), ArmedLaw s → step s = .next t → ArmedLaw t)

/-- R158: a filed record's verdict is its severity rule's, a disposition stands on HOLD records
only, and while a record stays in the store its shot, its verdict and a disposition it has do not
change. -/
def Obligations.VerdictsAreFixed : Prop :=
  ∀ (s t : State), StoreLaw s → VerdictLaw s → step s = .next t →
    VerdictLaw t
      ∧ ∀ r ∈ s.history.slots, ∀ r' ∈ t.history.slots, r'.filingNo = r.filingNo →
          r'.shot = r.shot ∧ r'.outcome = r.outcome ∧ r'.verdict = r.verdict
            ∧ (r.disposition.isSome = true → r'.disposition = r.disposition
                ∧ r'.dispositionAt = r.dispositionAt)

/-! ### The sensor link (R166 to R170) -/

/-- R166 to R171: ROUND_BEGIN, the good replies, and the misses with what the one that makes a node
MISSING hands over: the window that closes, a wrong check or length, and a complete reply that is not
the polled node's. That a reply with a right check whose length does not fit and whose address or kind
is wrong counts as CHECK is the model's choice (notes/assumptions/26). A LOAD sample that a channel
takes is stated by StableWindowCaptures and
OverforceStopsTheEjection. That ROUND_BEGIN within a round, and a reply or a closing window without a
poll, change nothing is the model's reading (notes/assumptions/8). -/
def Obligations.PollsMoveTheNodeTable : Prop :=
  ∀ s : State, s.phase = .running →
    (s.sensor.polling = none → ∃ first, exec .roundBegin s
        = .next (State.idleSettled { s with sensor.polling := first })
        ∧ ∀ n, first = some n ↔ (s.cfg.nodeKinds.get n ≠ .unused
            ∧ ∀ m : Ix16, m.toNat < n.toNat → s.cfg.nodeKinds.get m = .unused))
    ∧ (s.sensor.polling ≠ none → exec .roundBegin s = .next s.idleSettled)
    ∧ (s.sensor.polling = none → ∀ i, (i = .replyTimeout ∨ ∃ rep, i = .pollReply rep) →
        exec i s = .next s.idleSettled)
    ∧ ∀ n, s.sensor.polling = some n → ∃ next : Option Ix16,
      (∀ m, next = some m ↔ (n.toNat < m.toNat ∧ s.cfg.nodeKinds.get m ≠ .unused
          ∧ ∀ k : Ix16, n.toNat < k.toNat → k.toNat < m.toNat → s.cfg.nodeKinds.get k = .unused))
      ∧ (let nd := s.sensor.nodes.get n
         let moved := fun x : Node => ({ s with sensor := ⟨s.sensor.nodes.set n x, next⟩ } : State)
         (∀ (rep : NodeReply) (x : Quad TempSample), GoodReply rep n → rep.data = .temp x →
            s.cfg.nodeKinds.get n = .temp → nd.state ≠ .missing →
            ∃ ch : Quad TempChannel, exec (.pollReply rep) s = .next (State.idleSettled
                (moved { nd with state := .ok, misses := 0, channels := ch }))
              ∧ ∀ i, ch.get i = ⟨some (x.get i), true⟩)
         ∧ (∀ (rep : NodeReply) (x : LoadSample), GoodReply rep n → rep.data = .load x →
            s.cfg.nodeKinds.get n = .load → s.channelOf n = none → nd.state ≠ .missing →
            exec (.pollReply rep) s = .next (State.idleSettled
                (moved { nd with state := .ok, misses := 0 })))
         ∧ (∀ rep : NodeReply, GoodReply rep n →
            (match rep.data with | .temp _ => NodeKind.temp | .load _ => .load)
              = s.cfg.nodeKinds.get n →
            nd.state = .missing →
            exec (.pollReply rep) s = exec (.pollReply rep) (State.postRole
              { s with sensor.nodes := s.sensor.nodes.set n { nd with state := .ok, misses := 0 } }
              .line ⟨.nodeState, none, none, n.toNat + 1, 2⟩)))
      ∧ ∀ i reason,
          ((i = .replyTimeout ∧ reason = .timeout)
            ∨ (∃ rep, i = .pollReply rep ∧ (rep.check ≠ crc16 rep.body ∨ rep.fits = false)
                ∧ reason = .check)
            ∨ (∃ rep, i = .pollReply rep ∧ rep.check = crc16 rep.body ∧ rep.fits = true
                ∧ (rep.address.toNat ≠ n.toNat + 1
                  ∨ (∃ x, rep.data = .temp x ∧ s.cfg.nodeKinds.get n ≠ .temp)
                  ∨ (∃ x, rep.data = .load x ∧ s.cfg.nodeKinds.get n ≠ .load))
                ∧ reason = .wrongNode)) →
          let nd := s.sensor.nodes.get n
          let missed : Node :=
            { nd with misses := min 255 (nd.misses + 1), lastMiss := some reason }
          ((nd.misses < 2 ∨ nd.state = .missing ∨ nd.state = .unused) →
            exec i s = .next (State.idleSettled
              { s with sensor := ⟨s.sensor.nodes.set n missed, next⟩ }))
          ∧ (2 ≤ nd.misses → (nd.state = .ok ∨ nd.state = .waiting) →
              let lost : State := State.postRole
                { s with sensor := ⟨s.sensor.nodes.set n { missed with state := .missing }, next⟩ }
                .line ⟨.nodeState, none, none, n.toNat + 1, 3⟩
              let free : Weigh := { s.weigh with slot := .none, timer := none }
              let ended := fun t : State => exec i s = .next t.idleSettled
              ((s.cfg.nodeKinds.get n ≠ .load ∨ s.channelOf n = none) → ended lost)
              ∧ (s.cfg.nodeKinds.get n = .load → s.cfg.loadMap.w = some n →
                  (s.weigh.slot = .none → ended lost)
                  ∧ (∀ y, s.weigh.slot = .weigh y → ended (State.postRole
                      { lost with weigh := free } .loader
                      ⟨.weighFault, some y, (s.slots.get y).map Shot.serial, n.toNat + 1, 0⟩))
                  ∧ ∀ r, s.weigh.slot = .tare r → ended (State.postRole
                      { lost with weigh := free } r ⟨.tareFailed, none, none, 2, 0⟩))
              ∧ ∀ y, s.cfg.nodeKinds.get n = .load → s.channelOf n = some (forceChan y) →
                  ((s.eject.state = .idle ∨ s.eject.bay ≠ some y) → ended lost)
                  ∧ (s.eject.state ≠ .idle → s.eject.bay = some y → ended (State.postAll
                      { lost with
                        eject := if s.eject.state = .active then
                            { s.eject with state := .stopped, cause := .forceBlind }
                          else s.eject
                        slots := s.slots.set y ((s.slots.get y).map fun sh =>
                          { sh with exceptions := insertExc .forceBlind sh.exceptions }) }
                      ⟨.forceBlind, some y, s.eject.serial, n.toNat + 1, 0⟩)))
end

