-- ==== Sys2Proof/Laws/Containers.lean ====
section
/-!
SUPPORT. The laws of the containers: what a place holds after it, or another, has been set.
-/

namespace Sys2Proof

@[simp] theorem Quad.get_set {α : Type} (q : Quad α) (i j : Ix4) (x : α) :
    (q.set i x).get j = if i = j then x else q.get j := by
  cases i <;> cases j <;> rfl

@[simp] theorem Quad.get_ofFn {α : Type} (f : Ix4 → α) (i : Ix4) : (Quad.ofFn f).get i = f i := by
  cases i <;> rfl

@[simp] theorem Quad.get_all {α : Type} (x : α) (i : Ix4) : (Quad.all x).get i = x := by
  cases i <;> rfl

theorem Quad.ext_get {α : Type} {p q : Quad α} (h : ∀ i, p.get i = q.get i) : p = q := by
  have h0 := h .n0
  have h1 := h .n1
  have h2 := h .n2
  have h3 := h .n3
  cases p
  cases q
  simp only [Quad.get] at h0 h1 h2 h3
  subst h0 h1 h2 h3
  rfl

@[simp] theorem Hex.get_set {α : Type} (q : Hex α) (i j : Ix16) (x : α) :
    (q.set i x).get j = if i = j then x else q.get j := by
  obtain ⟨a, b⟩ := i
  obtain ⟨c, d⟩ := j
  simp only [Hex.get, Hex.set, Quad.get_set, Ix16.mk.injEq]
  by_cases h : a = c <;> by_cases k : b = d <;> simp [h, k]

@[simp] theorem Hex.get_ofFn {α : Type} (f : Ix16 → α) (i : Ix16) : (Hex.ofFn f).get i = f i := by
  simp [Hex.get, Hex.ofFn]

@[simp] theorem Hex.get_all {α : Type} (x : α) (i : Ix16) : (Hex.all x).get i = x := by
  simp [Hex.get, Hex.all]

@[simp] theorem PerBay.get_set {α : Type} (x : PerBay α) (i j : Bay) (v : α) :
    (x.set i v).get j = if i = j then v else x.get j := by
  cases i <;> cases j <;> rfl

@[simp] theorem Zones.get_ofFn {α : Type} (f : ZoneId → α) (z : ZoneId) :
    (Zones.ofFn f).get z = f z := by
  obtain ⟨g, i⟩ := z
  cases g <;> simp [Zones.get, Zones.ofFn]

@[simp] theorem Zones.get_all {α : Type} (x : α) (z : ZoneId) : (Zones.all x).get z = x := by
  obtain ⟨g, i⟩ := z
  cases g <;> simp [Zones.get, Zones.all]

@[simp] theorem Zones.get_set {α : Type} (x : Zones α) (i j : ZoneId) (v : α) :
    (x.set i v).get j = if i = j then v else x.get j := by
  obtain ⟨g, a⟩ := i
  obtain ⟨h, b⟩ := j
  cases g <;> cases h <;> simp [Zones.get, Zones.set]

@[simp] theorem PerChan.get_set {α : Type} (x : PerChan α) (i j : Chan) (v : α) :
    (x.set i v).get j = if i = j then v else x.get j := by
  cases i <;> cases j <;> rfl

@[simp] theorem PerArea.get_set {α : Type} (x : PerArea α) (i j : Area) (v : α) :
    (x.set i v).get j = if i = j then v else x.get j := by
  cases i <;> cases j <;> rfl

theorem Ix4.mem_all (i : Ix4) : i ∈ Ix4.all := by cases i <;> decide

theorem Ix16.mem_all (i : Ix16) : i ∈ Ix16.all := by
  obtain ⟨a, b⟩ := i
  simp [Ix16.all, Ix4.mem_all]

theorem ZoneId.mem_all (z : ZoneId) : z ∈ ZoneId.all := by
  obtain ⟨g, i⟩ := z
  cases g <;> simp [ZoneId.all, Ix4.mem_all]

end Sys2Proof
end

