-- ==== Sys2Proof/Laws/PerInstr.lean ====
section
/-!
SUPPORT. Statements about every command as syntax, one lemma per constructor of `Instr`. The family
`RequestCode`: a command that a frame carries is sent under a code of the request table (R178), and
that code names its request and no other.
-/

namespace Sys2Proof

/-- R178, step 1: the code of a request names that request. -/
theorem ReqKind.ofCode_code (k : ReqKind) : ReqKind.ofCode k.code = some k := by
  cases k <;> decide

end Sys2Proof

namespace Sys2Proof.Laws

/-- The request a command stands for is found again from its code. -/
def RequestCode.Statement (i : Instr) : Prop :=
  ∀ p k ps, requestOf i = some (p, k, ps) → ReqKind.ofCode k.code = some k

/-- The statement holds of a command whatever request it stands for. -/
theorem RequestCode.of_code (i : Instr) : RequestCode.Statement i :=
  fun _ k _ _ => ReqKind.ofCode_code k

theorem RequestCode.frameStart (p : PortId) : RequestCode.Statement (.frameStart p) :=
  RequestCode.of_code _

theorem RequestCode.frameEnd (p : PortId) (bytes : List Byte) (spareBits : Fin 8) : RequestCode.Statement (.frameEnd p bytes spareBits) :=
  RequestCode.of_code _

theorem RequestCode.frameTimeout (held : HeldSelect) : RequestCode.Statement (.frameTimeout held) :=
  RequestCode.of_code _

theorem RequestCode.unknownCode (p : PortId) (code : Byte) (params : List Byte) : RequestCode.Statement (.unknownCode p code params) :=
  RequestCode.of_code _

theorem RequestCode.resultReturn (p : PortId) : RequestCode.Statement (.resultReturn p) :=
  RequestCode.of_code _

theorem RequestCode.noticeAge (p : PortId) : RequestCode.Statement (.noticeAge p) :=
  RequestCode.of_code _

theorem RequestCode.silenceTimerExpiry (p : PortId) : RequestCode.Statement (.silenceTimerExpiry p) :=
  RequestCode.of_code _

theorem RequestCode.nop (p : PortId) : RequestCode.Statement (.nop p) :=
  RequestCode.of_code _

theorem RequestCode.identify (p : PortId) : RequestCode.Statement (.identify p) :=
  RequestCode.of_code _

theorem RequestCode.readNotice (p : PortId) : RequestCode.Statement (.readNotice p) :=
  RequestCode.of_code _

theorem RequestCode.subscribe (p : PortId) (level : Byte) (codes : List Byte) : RequestCode.Statement (.subscribe p level codes) :=
  RequestCode.of_code _

theorem RequestCode.portStatus (p : PortId) (named : Option (Byte × List Byte)) : RequestCode.Statement (.portStatus p named) :=
  RequestCode.of_code _

theorem RequestCode.readShot (p : PortId) (bay part : Byte) : RequestCode.Statement (.readShot p bay part) :=
  RequestCode.of_code _

theorem RequestCode.readBay (p : PortId) (bay : Byte) : RequestCode.Statement (.readBay p bay) :=
  RequestCode.of_code _

theorem RequestCode.readZone (p : PortId) (zone : Byte) : RequestCode.Statement (.readZone p zone) :=
  RequestCode.of_code _

theorem RequestCode.readCell (p : PortId) : RequestCode.Statement (.readCell p) :=
  RequestCode.of_code _

theorem RequestCode.recipeRead (p : PortId) (slot : Byte) : RequestCode.Statement (.recipeRead p slot) :=
  RequestCode.of_code _

theorem RequestCode.historyFind (p : PortId) (serial : BitVec 32) (page : Byte) : RequestCode.Statement (.historyFind p serial page) :=
  RequestCode.of_code _

theorem RequestCode.readNode (p : PortId) (address : Byte) : RequestCode.Statement (.readNode p address) :=
  RequestCode.of_code _

theorem RequestCode.holdAdd (p : PortId) (scope reason : Byte) : RequestCode.Statement (.holdAdd p scope reason) :=
  RequestCode.of_code _

theorem RequestCode.holdRemove (p : PortId) (scope reason : Byte) : RequestCode.Statement (.holdRemove p scope reason) :=
  RequestCode.of_code _

theorem RequestCode.holdClear (p : PortId) : RequestCode.Statement (.holdClear p) :=
  RequestCode.of_code _

theorem RequestCode.reportPress (p : PortId) (state : Byte) (force : Option (BitVec 16)) : RequestCode.Statement (.reportPress p state force) :=
  RequestCode.of_code _

theorem RequestCode.closeRequest (p : PortId) : RequestCode.Statement (.closeRequest p) :=
  RequestCode.of_code _

theorem RequestCode.shuttleRequest (p : PortId) (target : Byte) : RequestCode.Statement (.shuttleRequest p target) :=
  RequestCode.of_code _

theorem RequestCode.shuttleDone (p : PortId) (position : Byte) : RequestCode.Statement (.shuttleDone p position) :=
  RequestCode.of_code _

theorem RequestCode.areaEnter (p : PortId) (area : Byte) : RequestCode.Statement (.areaEnter p area) :=
  RequestCode.of_code _

theorem RequestCode.areaLeave (p : PortId) (area : Byte) : RequestCode.Statement (.areaLeave p area) :=
  RequestCode.of_code _

theorem RequestCode.forceLeave (p : PortId) (area : Byte) : RequestCode.Statement (.forceLeave p area) :=
  RequestCode.of_code _

theorem RequestCode.chargeBegin (p : PortId) (bay : Byte) : RequestCode.Statement (.chargeBegin p bay) :=
  RequestCode.of_code _

theorem RequestCode.weighPiece (p : PortId) (bay : Byte) : RequestCode.Statement (.weighPiece p bay) :=
  RequestCode.of_code _

theorem RequestCode.weighCancel (p : PortId) : RequestCode.Statement (.weighCancel p) :=
  RequestCode.of_code _

theorem RequestCode.removePiece (p : PortId) (bay : Byte) : RequestCode.Statement (.removePiece p bay) :=
  RequestCode.of_code _

theorem RequestCode.discardCharge (p : PortId) (bay : Byte) : RequestCode.Statement (.discardCharge p bay) :=
  RequestCode.of_code _

theorem RequestCode.chargeDone (p : PortId) (bay : Byte) : RequestCode.Statement (.chargeDone p bay) :=
  RequestCode.of_code _

theorem RequestCode.tare (p : PortId) : RequestCode.Statement (.tare p) :=
  RequestCode.of_code _

theorem RequestCode.ejectBegin (p : PortId) (bay : Byte) : RequestCode.Statement (.ejectBegin p bay) :=
  RequestCode.of_code _

theorem RequestCode.ejectEnd (p : PortId) (bay : Byte) : RequestCode.Statement (.ejectEnd p bay) :=
  RequestCode.of_code _

theorem RequestCode.partTaken (p : PortId) (bay condition : Byte) : RequestCode.Statement (.partTaken p bay condition) :=
  RequestCode.of_code _

theorem RequestCode.releaseApplied (p : PortId) (target : Byte) : RequestCode.Statement (.releaseApplied p target) :=
  RequestCode.of_code _

theorem RequestCode.recipeWrite (p : PortId) (slot : Byte) (fields : RawRecipe) : RequestCode.Statement (.recipeWrite p slot fields) :=
  RequestCode.of_code _

theorem RequestCode.recipeErase (p : PortId) (slot : Byte) : RequestCode.Statement (.recipeErase p slot) :=
  RequestCode.of_code _

theorem RequestCode.bayBind (p : PortId) (bay : Byte) (mould : BitVec 16) (slot : Byte) : RequestCode.Statement (.bayBind p bay mould slot) :=
  RequestCode.of_code _

theorem RequestCode.bayUnbind (p : PortId) (bay : Byte) : RequestCode.Statement (.bayUnbind p bay) :=
  RequestCode.of_code _

theorem RequestCode.mouldChecked (p : PortId) (bay : Byte) : RequestCode.Statement (.mouldChecked p bay) :=
  RequestCode.of_code _

theorem RequestCode.shotAbort (p : PortId) (bay : Byte) : RequestCode.Statement (.shotAbort p bay) :=
  RequestCode.of_code _

theorem RequestCode.serialBase (p : PortId) (value : BitVec 32) : RequestCode.Statement (.serialBase p value) :=
  RequestCode.of_code _

theorem RequestCode.heatMode (p : PortId) (code : Byte) : RequestCode.Statement (.heatMode p code) :=
  RequestCode.of_code _

theorem RequestCode.park (p : PortId) : RequestCode.Statement (.park p) :=
  RequestCode.of_code _

theorem RequestCode.zoneEnable (p : PortId) (zone : Byte) : RequestCode.Statement (.zoneEnable p zone) :=
  RequestCode.of_code _

theorem RequestCode.zoneDisable (p : PortId) (zone : Byte) : RequestCode.Statement (.zoneDisable p zone) :=
  RequestCode.of_code _

theorem RequestCode.historyNext (p : PortId) (page : Byte) : RequestCode.Statement (.historyNext p page) :=
  RequestCode.of_code _

theorem RequestCode.historyAck (p : PortId) (serial : BitVec 32) : RequestCode.Statement (.historyAck p serial) :=
  RequestCode.of_code _

theorem RequestCode.dispositionSet (p : PortId) (serial : BitVec 32) (disposition : Byte) : RequestCode.Statement (.dispositionSet p serial disposition) :=
  RequestCode.of_code _

theorem RequestCode.clockSet (p : PortId) (time : CellTime) : RequestCode.Statement (.clockSet p time) :=
  RequestCode.of_code _

theorem RequestCode.configSet (p : PortId) (tag : Byte) (data : List Byte) : RequestCode.Statement (.configSet p tag data) :=
  RequestCode.of_code _

theorem RequestCode.restart (p : PortId) : RequestCode.Statement (.restart p) :=
  RequestCode.of_code _

theorem RequestCode.heatPeriod : RequestCode.Statement (.heatPeriod) :=
  RequestCode.of_code _

theorem RequestCode.idleTimerExpiry : RequestCode.Statement (.idleTimerExpiry) :=
  RequestCode.of_code _

theorem RequestCode.roundBegin : RequestCode.Statement (.roundBegin) :=
  RequestCode.of_code _

theorem RequestCode.pollReply (reply : NodeReply) : RequestCode.Statement (.pollReply reply) :=
  RequestCode.of_code _

theorem RequestCode.replyTimeout : RequestCode.Statement (.replyTimeout) :=
  RequestCode.of_code _

theorem RequestCode.weighTimerExpiry : RequestCode.Statement (.weighTimerExpiry) :=
  RequestCode.of_code _

theorem RequestCode.ejectionTimerExpiry : RequestCode.Statement (.ejectionTimerExpiry) :=
  RequestCode.of_code _

theorem RequestCode.pfwarnAsserted : RequestCode.Statement (.pfwarnAsserted) :=
  RequestCode.of_code _

theorem RequestCode.pfwarnDeasserted : RequestCode.Statement (.pfwarnDeasserted) :=
  RequestCode.of_code _

theorem RequestCode.mainLoss : RequestCode.Statement (.mainLoss) :=
  RequestCode.of_code _

theorem RequestCode.retainLoss : RequestCode.Statement (.retainLoss) :=
  RequestCode.of_code _

theorem RequestCode.mainRise : RequestCode.Statement (.mainRise) :=
  RequestCode.of_code _

theorem RequestCode.resetAsserted : RequestCode.Statement (.resetAsserted) :=
  RequestCode.of_code _

theorem RequestCode.resetReleased : RequestCode.Statement (.resetReleased) :=
  RequestCode.of_code _

theorem RequestCode.configLoadEnd (image : List Byte) : RequestCode.Statement (.configLoadEnd image) :=
  RequestCode.of_code _

theorem RequestCode.clk32Stopped : RequestCode.Statement (.clk32Stopped) :=
  RequestCode.of_code _

theorem RequestCode.clk32Resumed : RequestCode.Statement (.clk32Resumed) :=
  RequestCode.of_code _

theorem RequestCode.heaterSwitchOff (zone : ZoneId) : RequestCode.Statement (.heaterSwitchOff zone) :=
  RequestCode.of_code _

theorem RequestCode.cellTimeSecond : RequestCode.Statement (.cellTimeSecond) :=
  RequestCode.of_code _

end Sys2Proof.Laws
end

