-- ==== Sys2Proof/Laws/State.lean ====
section
/-!
SUPPORT. The field lemmas of the operations that replace one field of State: the field's new value
where it has a short one, and every other field unchanged. All are true by unfolding, so no later
proof opens a record update.
-/

namespace Sys2Proof.Machine

open Sys2Proof

variable (s : State)

@[simp] theorem State.setPort_ports (p : PortId) (q : Port) : (s.setPort p q).ports = s.ports.set p q := rfl
@[simp] theorem State.setPort_pending (p : PortId) (q : Port) : (s.setPort p q).pending = s.pending := rfl
@[simp] theorem State.setPort_phase (p : PortId) (q : Port) : (s.setPort p q).phase = s.phase := rfl
@[simp] theorem State.setPort_pins (p : PortId) (q : Port) : (s.setPort p q).pins = s.pins := rfl
@[simp] theorem State.setPort_retainTripped (p : PortId) (q : Port) : (s.setPort p q).retainTripped = s.retainTripped := rfl
@[simp] theorem State.setPort_supply (p : PortId) (q : Port) : (s.setPort p q).supply = s.supply := rfl
@[simp] theorem State.setPort_clock (p : PortId) (q : Port) : (s.setPort p q).clock = s.clock := rfl
@[simp] theorem State.setPort_lastHeat (p : PortId) (q : Port) : (s.setPort p q).lastHeat = s.lastHeat := rfl
@[simp] theorem State.setPort_cfg (p : PortId) (q : Port) : (s.setPort p q).cfg = s.cfg := rfl
@[simp] theorem State.setPort_slots (p : PortId) (q : Port) : (s.setPort p q).slots = s.slots := rfl
@[simp] theorem State.setPort_serial (p : PortId) (q : Port) : (s.setPort p q).serial = s.serial := rfl
@[simp] theorem State.setPort_recipes (p : PortId) (q : Port) : (s.setPort p q).recipes = s.recipes := rfl
@[simp] theorem State.setPort_bays (p : PortId) (q : Port) : (s.setPort p q).bays = s.bays := rfl
@[simp] theorem State.setPort_upperCount (p : PortId) (q : Port) : (s.setPort p q).upperCount = s.upperCount := rfl
@[simp] theorem State.setPort_heat (p : PortId) (q : Port) : (s.setPort p q).heat = s.heat := rfl
@[simp] theorem State.setPort_cureMarks (p : PortId) (q : Port) : (s.setPort p q).cureMarks = s.cureMarks := rfl
@[simp] theorem State.setPort_channels (p : PortId) (q : Port) : (s.setPort p q).channels = s.channels := rfl
@[simp] theorem State.setPort_weigh (p : PortId) (q : Port) : (s.setPort p q).weigh = s.weigh := rfl
@[simp] theorem State.setPort_permit (p : PortId) (q : Port) : (s.setPort p q).permit = s.permit := rfl
@[simp] theorem State.setPort_eject (p : PortId) (q : Port) : (s.setPort p q).eject = s.eject := rfl
@[simp] theorem State.setPort_history (p : PortId) (q : Port) : (s.setPort p q).history = s.history := rfl
@[simp] theorem State.setPort_sensor (p : PortId) (q : Port) : (s.setPort p q).sensor = s.sensor := rfl

@[simp] theorem State.setBuffer_pending (p : PortId) (b : Buffer) : (s.setBuffer p b).pending = s.pending := rfl
@[simp] theorem State.setBuffer_phase (p : PortId) (b : Buffer) : (s.setBuffer p b).phase = s.phase := rfl
@[simp] theorem State.setBuffer_pins (p : PortId) (b : Buffer) : (s.setBuffer p b).pins = s.pins := rfl
@[simp] theorem State.setBuffer_retainTripped (p : PortId) (b : Buffer) : (s.setBuffer p b).retainTripped = s.retainTripped := rfl
@[simp] theorem State.setBuffer_supply (p : PortId) (b : Buffer) : (s.setBuffer p b).supply = s.supply := rfl
@[simp] theorem State.setBuffer_clock (p : PortId) (b : Buffer) : (s.setBuffer p b).clock = s.clock := rfl
@[simp] theorem State.setBuffer_lastHeat (p : PortId) (b : Buffer) : (s.setBuffer p b).lastHeat = s.lastHeat := rfl
@[simp] theorem State.setBuffer_cfg (p : PortId) (b : Buffer) : (s.setBuffer p b).cfg = s.cfg := rfl
@[simp] theorem State.setBuffer_slots (p : PortId) (b : Buffer) : (s.setBuffer p b).slots = s.slots := rfl
@[simp] theorem State.setBuffer_serial (p : PortId) (b : Buffer) : (s.setBuffer p b).serial = s.serial := rfl
@[simp] theorem State.setBuffer_recipes (p : PortId) (b : Buffer) : (s.setBuffer p b).recipes = s.recipes := rfl
@[simp] theorem State.setBuffer_bays (p : PortId) (b : Buffer) : (s.setBuffer p b).bays = s.bays := rfl
@[simp] theorem State.setBuffer_upperCount (p : PortId) (b : Buffer) : (s.setBuffer p b).upperCount = s.upperCount := rfl
@[simp] theorem State.setBuffer_heat (p : PortId) (b : Buffer) : (s.setBuffer p b).heat = s.heat := rfl
@[simp] theorem State.setBuffer_cureMarks (p : PortId) (b : Buffer) : (s.setBuffer p b).cureMarks = s.cureMarks := rfl
@[simp] theorem State.setBuffer_channels (p : PortId) (b : Buffer) : (s.setBuffer p b).channels = s.channels := rfl
@[simp] theorem State.setBuffer_weigh (p : PortId) (b : Buffer) : (s.setBuffer p b).weigh = s.weigh := rfl
@[simp] theorem State.setBuffer_permit (p : PortId) (b : Buffer) : (s.setBuffer p b).permit = s.permit := rfl
@[simp] theorem State.setBuffer_eject (p : PortId) (b : Buffer) : (s.setBuffer p b).eject = s.eject := rfl
@[simp] theorem State.setBuffer_history (p : PortId) (b : Buffer) : (s.setBuffer p b).history = s.history := rfl
@[simp] theorem State.setBuffer_sensor (p : PortId) (b : Buffer) : (s.setBuffer p b).sensor = s.sensor := rfl

@[simp] theorem State.setFrame_pending (p : PortId) (f : Option Frame) : (s.setFrame p f).pending = s.pending := rfl
@[simp] theorem State.setFrame_phase (p : PortId) (f : Option Frame) : (s.setFrame p f).phase = s.phase := rfl
@[simp] theorem State.setFrame_pins (p : PortId) (f : Option Frame) : (s.setFrame p f).pins = s.pins := rfl
@[simp] theorem State.setFrame_retainTripped (p : PortId) (f : Option Frame) : (s.setFrame p f).retainTripped = s.retainTripped := rfl
@[simp] theorem State.setFrame_supply (p : PortId) (f : Option Frame) : (s.setFrame p f).supply = s.supply := rfl
@[simp] theorem State.setFrame_clock (p : PortId) (f : Option Frame) : (s.setFrame p f).clock = s.clock := rfl
@[simp] theorem State.setFrame_lastHeat (p : PortId) (f : Option Frame) : (s.setFrame p f).lastHeat = s.lastHeat := rfl
@[simp] theorem State.setFrame_cfg (p : PortId) (f : Option Frame) : (s.setFrame p f).cfg = s.cfg := rfl
@[simp] theorem State.setFrame_slots (p : PortId) (f : Option Frame) : (s.setFrame p f).slots = s.slots := rfl
@[simp] theorem State.setFrame_serial (p : PortId) (f : Option Frame) : (s.setFrame p f).serial = s.serial := rfl
@[simp] theorem State.setFrame_recipes (p : PortId) (f : Option Frame) : (s.setFrame p f).recipes = s.recipes := rfl
@[simp] theorem State.setFrame_bays (p : PortId) (f : Option Frame) : (s.setFrame p f).bays = s.bays := rfl
@[simp] theorem State.setFrame_upperCount (p : PortId) (f : Option Frame) : (s.setFrame p f).upperCount = s.upperCount := rfl
@[simp] theorem State.setFrame_heat (p : PortId) (f : Option Frame) : (s.setFrame p f).heat = s.heat := rfl
@[simp] theorem State.setFrame_cureMarks (p : PortId) (f : Option Frame) : (s.setFrame p f).cureMarks = s.cureMarks := rfl
@[simp] theorem State.setFrame_channels (p : PortId) (f : Option Frame) : (s.setFrame p f).channels = s.channels := rfl
@[simp] theorem State.setFrame_weigh (p : PortId) (f : Option Frame) : (s.setFrame p f).weigh = s.weigh := rfl
@[simp] theorem State.setFrame_permit (p : PortId) (f : Option Frame) : (s.setFrame p f).permit = s.permit := rfl
@[simp] theorem State.setFrame_eject (p : PortId) (f : Option Frame) : (s.setFrame p f).eject = s.eject := rfl
@[simp] theorem State.setFrame_history (p : PortId) (f : Option Frame) : (s.setFrame p f).history = s.history := rfl
@[simp] theorem State.setFrame_sensor (p : PortId) (f : Option Frame) : (s.setFrame p f).sensor = s.sensor := rfl

@[simp] theorem State.answer_pending (p : PortId) (i : Instr) (r : Reply) : (s.answer p i r).pending = s.pending := rfl
@[simp] theorem State.answer_phase (p : PortId) (i : Instr) (r : Reply) : (s.answer p i r).phase = s.phase := rfl
@[simp] theorem State.answer_pins (p : PortId) (i : Instr) (r : Reply) : (s.answer p i r).pins = s.pins := rfl
@[simp] theorem State.answer_retainTripped (p : PortId) (i : Instr) (r : Reply) : (s.answer p i r).retainTripped = s.retainTripped := rfl
@[simp] theorem State.answer_supply (p : PortId) (i : Instr) (r : Reply) : (s.answer p i r).supply = s.supply := rfl
@[simp] theorem State.answer_clock (p : PortId) (i : Instr) (r : Reply) : (s.answer p i r).clock = s.clock := rfl
@[simp] theorem State.answer_lastHeat (p : PortId) (i : Instr) (r : Reply) : (s.answer p i r).lastHeat = s.lastHeat := rfl
@[simp] theorem State.answer_cfg (p : PortId) (i : Instr) (r : Reply) : (s.answer p i r).cfg = s.cfg := rfl
@[simp] theorem State.answer_slots (p : PortId) (i : Instr) (r : Reply) : (s.answer p i r).slots = s.slots := rfl
@[simp] theorem State.answer_serial (p : PortId) (i : Instr) (r : Reply) : (s.answer p i r).serial = s.serial := rfl
@[simp] theorem State.answer_recipes (p : PortId) (i : Instr) (r : Reply) : (s.answer p i r).recipes = s.recipes := rfl
@[simp] theorem State.answer_bays (p : PortId) (i : Instr) (r : Reply) : (s.answer p i r).bays = s.bays := rfl
@[simp] theorem State.answer_upperCount (p : PortId) (i : Instr) (r : Reply) : (s.answer p i r).upperCount = s.upperCount := rfl
@[simp] theorem State.answer_heat (p : PortId) (i : Instr) (r : Reply) : (s.answer p i r).heat = s.heat := rfl
@[simp] theorem State.answer_cureMarks (p : PortId) (i : Instr) (r : Reply) : (s.answer p i r).cureMarks = s.cureMarks := rfl
@[simp] theorem State.answer_channels (p : PortId) (i : Instr) (r : Reply) : (s.answer p i r).channels = s.channels := rfl
@[simp] theorem State.answer_weigh (p : PortId) (i : Instr) (r : Reply) : (s.answer p i r).weigh = s.weigh := rfl
@[simp] theorem State.answer_permit (p : PortId) (i : Instr) (r : Reply) : (s.answer p i r).permit = s.permit := rfl
@[simp] theorem State.answer_eject (p : PortId) (i : Instr) (r : Reply) : (s.answer p i r).eject = s.eject := rfl
@[simp] theorem State.answer_history (p : PortId) (i : Instr) (r : Reply) : (s.answer p i r).history = s.history := rfl
@[simp] theorem State.answer_sensor (p : PortId) (i : Instr) (r : Reply) : (s.answer p i r).sensor = s.sensor := rfl

@[simp] theorem State.post_pending (p : PortId) (n : Notice) : (s.post p n).pending = s.pending := rfl
@[simp] theorem State.post_phase (p : PortId) (n : Notice) : (s.post p n).phase = s.phase := rfl
@[simp] theorem State.post_pins (p : PortId) (n : Notice) : (s.post p n).pins = s.pins := rfl
@[simp] theorem State.post_retainTripped (p : PortId) (n : Notice) : (s.post p n).retainTripped = s.retainTripped := rfl
@[simp] theorem State.post_supply (p : PortId) (n : Notice) : (s.post p n).supply = s.supply := rfl
@[simp] theorem State.post_clock (p : PortId) (n : Notice) : (s.post p n).clock = s.clock := rfl
@[simp] theorem State.post_lastHeat (p : PortId) (n : Notice) : (s.post p n).lastHeat = s.lastHeat := rfl
@[simp] theorem State.post_cfg (p : PortId) (n : Notice) : (s.post p n).cfg = s.cfg := rfl
@[simp] theorem State.post_slots (p : PortId) (n : Notice) : (s.post p n).slots = s.slots := rfl
@[simp] theorem State.post_serial (p : PortId) (n : Notice) : (s.post p n).serial = s.serial := rfl
@[simp] theorem State.post_recipes (p : PortId) (n : Notice) : (s.post p n).recipes = s.recipes := rfl
@[simp] theorem State.post_bays (p : PortId) (n : Notice) : (s.post p n).bays = s.bays := rfl
@[simp] theorem State.post_upperCount (p : PortId) (n : Notice) : (s.post p n).upperCount = s.upperCount := rfl
@[simp] theorem State.post_heat (p : PortId) (n : Notice) : (s.post p n).heat = s.heat := rfl
@[simp] theorem State.post_cureMarks (p : PortId) (n : Notice) : (s.post p n).cureMarks = s.cureMarks := rfl
@[simp] theorem State.post_channels (p : PortId) (n : Notice) : (s.post p n).channels = s.channels := rfl
@[simp] theorem State.post_weigh (p : PortId) (n : Notice) : (s.post p n).weigh = s.weigh := rfl
@[simp] theorem State.post_permit (p : PortId) (n : Notice) : (s.post p n).permit = s.permit := rfl
@[simp] theorem State.post_eject (p : PortId) (n : Notice) : (s.post p n).eject = s.eject := rfl
@[simp] theorem State.post_history (p : PortId) (n : Notice) : (s.post p n).history = s.history := rfl
@[simp] theorem State.post_sensor (p : PortId) (n : Notice) : (s.post p n).sensor = s.sensor := rfl

@[simp] theorem State.postRole_pending (r : Role) (n : Notice) : (s.postRole r n).pending = s.pending := rfl
@[simp] theorem State.postRole_phase (r : Role) (n : Notice) : (s.postRole r n).phase = s.phase := rfl
@[simp] theorem State.postRole_pins (r : Role) (n : Notice) : (s.postRole r n).pins = s.pins := rfl
@[simp] theorem State.postRole_retainTripped (r : Role) (n : Notice) : (s.postRole r n).retainTripped = s.retainTripped := rfl
@[simp] theorem State.postRole_supply (r : Role) (n : Notice) : (s.postRole r n).supply = s.supply := rfl
@[simp] theorem State.postRole_clock (r : Role) (n : Notice) : (s.postRole r n).clock = s.clock := rfl
@[simp] theorem State.postRole_lastHeat (r : Role) (n : Notice) : (s.postRole r n).lastHeat = s.lastHeat := rfl
@[simp] theorem State.postRole_cfg (r : Role) (n : Notice) : (s.postRole r n).cfg = s.cfg := rfl
@[simp] theorem State.postRole_slots (r : Role) (n : Notice) : (s.postRole r n).slots = s.slots := rfl
@[simp] theorem State.postRole_serial (r : Role) (n : Notice) : (s.postRole r n).serial = s.serial := rfl
@[simp] theorem State.postRole_recipes (r : Role) (n : Notice) : (s.postRole r n).recipes = s.recipes := rfl
@[simp] theorem State.postRole_bays (r : Role) (n : Notice) : (s.postRole r n).bays = s.bays := rfl
@[simp] theorem State.postRole_upperCount (r : Role) (n : Notice) : (s.postRole r n).upperCount = s.upperCount := rfl
@[simp] theorem State.postRole_heat (r : Role) (n : Notice) : (s.postRole r n).heat = s.heat := rfl
@[simp] theorem State.postRole_cureMarks (r : Role) (n : Notice) : (s.postRole r n).cureMarks = s.cureMarks := rfl
@[simp] theorem State.postRole_channels (r : Role) (n : Notice) : (s.postRole r n).channels = s.channels := rfl
@[simp] theorem State.postRole_weigh (r : Role) (n : Notice) : (s.postRole r n).weigh = s.weigh := rfl
@[simp] theorem State.postRole_permit (r : Role) (n : Notice) : (s.postRole r n).permit = s.permit := rfl
@[simp] theorem State.postRole_eject (r : Role) (n : Notice) : (s.postRole r n).eject = s.eject := rfl
@[simp] theorem State.postRole_history (r : Role) (n : Notice) : (s.postRole r n).history = s.history := rfl
@[simp] theorem State.postRole_sensor (r : Role) (n : Notice) : (s.postRole r n).sensor = s.sensor := rfl

@[simp] theorem State.postAll_pending (n : Notice) : (s.postAll n).pending = s.pending := rfl
@[simp] theorem State.postAll_phase (n : Notice) : (s.postAll n).phase = s.phase := rfl
@[simp] theorem State.postAll_pins (n : Notice) : (s.postAll n).pins = s.pins := rfl
@[simp] theorem State.postAll_retainTripped (n : Notice) : (s.postAll n).retainTripped = s.retainTripped := rfl
@[simp] theorem State.postAll_supply (n : Notice) : (s.postAll n).supply = s.supply := rfl
@[simp] theorem State.postAll_clock (n : Notice) : (s.postAll n).clock = s.clock := rfl
@[simp] theorem State.postAll_lastHeat (n : Notice) : (s.postAll n).lastHeat = s.lastHeat := rfl
@[simp] theorem State.postAll_cfg (n : Notice) : (s.postAll n).cfg = s.cfg := rfl
@[simp] theorem State.postAll_slots (n : Notice) : (s.postAll n).slots = s.slots := rfl
@[simp] theorem State.postAll_serial (n : Notice) : (s.postAll n).serial = s.serial := rfl
@[simp] theorem State.postAll_recipes (n : Notice) : (s.postAll n).recipes = s.recipes := rfl
@[simp] theorem State.postAll_bays (n : Notice) : (s.postAll n).bays = s.bays := rfl
@[simp] theorem State.postAll_upperCount (n : Notice) : (s.postAll n).upperCount = s.upperCount := rfl
@[simp] theorem State.postAll_heat (n : Notice) : (s.postAll n).heat = s.heat := rfl
@[simp] theorem State.postAll_cureMarks (n : Notice) : (s.postAll n).cureMarks = s.cureMarks := rfl
@[simp] theorem State.postAll_channels (n : Notice) : (s.postAll n).channels = s.channels := rfl
@[simp] theorem State.postAll_weigh (n : Notice) : (s.postAll n).weigh = s.weigh := rfl
@[simp] theorem State.postAll_permit (n : Notice) : (s.postAll n).permit = s.permit := rfl
@[simp] theorem State.postAll_eject (n : Notice) : (s.postAll n).eject = s.eject := rfl
@[simp] theorem State.postAll_history (n : Notice) : (s.postAll n).history = s.history := rfl
@[simp] theorem State.postAll_sensor (n : Notice) : (s.postAll n).sensor = s.sensor := rfl

@[simp] theorem State.postSubs_pending (n : Notice) : (s.postSubs n).pending = s.pending := rfl
@[simp] theorem State.postSubs_phase (n : Notice) : (s.postSubs n).phase = s.phase := rfl
@[simp] theorem State.postSubs_pins (n : Notice) : (s.postSubs n).pins = s.pins := rfl
@[simp] theorem State.postSubs_retainTripped (n : Notice) : (s.postSubs n).retainTripped = s.retainTripped := rfl
@[simp] theorem State.postSubs_supply (n : Notice) : (s.postSubs n).supply = s.supply := rfl
@[simp] theorem State.postSubs_clock (n : Notice) : (s.postSubs n).clock = s.clock := rfl
@[simp] theorem State.postSubs_lastHeat (n : Notice) : (s.postSubs n).lastHeat = s.lastHeat := rfl
@[simp] theorem State.postSubs_cfg (n : Notice) : (s.postSubs n).cfg = s.cfg := rfl
@[simp] theorem State.postSubs_slots (n : Notice) : (s.postSubs n).slots = s.slots := rfl
@[simp] theorem State.postSubs_serial (n : Notice) : (s.postSubs n).serial = s.serial := rfl
@[simp] theorem State.postSubs_recipes (n : Notice) : (s.postSubs n).recipes = s.recipes := rfl
@[simp] theorem State.postSubs_bays (n : Notice) : (s.postSubs n).bays = s.bays := rfl
@[simp] theorem State.postSubs_upperCount (n : Notice) : (s.postSubs n).upperCount = s.upperCount := rfl
@[simp] theorem State.postSubs_heat (n : Notice) : (s.postSubs n).heat = s.heat := rfl
@[simp] theorem State.postSubs_cureMarks (n : Notice) : (s.postSubs n).cureMarks = s.cureMarks := rfl
@[simp] theorem State.postSubs_channels (n : Notice) : (s.postSubs n).channels = s.channels := rfl
@[simp] theorem State.postSubs_weigh (n : Notice) : (s.postSubs n).weigh = s.weigh := rfl
@[simp] theorem State.postSubs_permit (n : Notice) : (s.postSubs n).permit = s.permit := rfl
@[simp] theorem State.postSubs_eject (n : Notice) : (s.postSubs n).eject = s.eject := rfl
@[simp] theorem State.postSubs_history (n : Notice) : (s.postSubs n).history = s.history := rfl
@[simp] theorem State.postSubs_sensor (n : Notice) : (s.postSubs n).sensor = s.sensor := rfl

@[simp] theorem State.setSlot_slots (y : Bay) (o : Option Shot) : (s.setSlot y o).slots = s.slots.set y o := rfl
@[simp] theorem State.setSlot_pending (y : Bay) (o : Option Shot) : (s.setSlot y o).pending = s.pending := rfl
@[simp] theorem State.setSlot_phase (y : Bay) (o : Option Shot) : (s.setSlot y o).phase = s.phase := rfl
@[simp] theorem State.setSlot_pins (y : Bay) (o : Option Shot) : (s.setSlot y o).pins = s.pins := rfl
@[simp] theorem State.setSlot_retainTripped (y : Bay) (o : Option Shot) : (s.setSlot y o).retainTripped = s.retainTripped := rfl
@[simp] theorem State.setSlot_supply (y : Bay) (o : Option Shot) : (s.setSlot y o).supply = s.supply := rfl
@[simp] theorem State.setSlot_clock (y : Bay) (o : Option Shot) : (s.setSlot y o).clock = s.clock := rfl
@[simp] theorem State.setSlot_lastHeat (y : Bay) (o : Option Shot) : (s.setSlot y o).lastHeat = s.lastHeat := rfl
@[simp] theorem State.setSlot_cfg (y : Bay) (o : Option Shot) : (s.setSlot y o).cfg = s.cfg := rfl
@[simp] theorem State.setSlot_ports (y : Bay) (o : Option Shot) : (s.setSlot y o).ports = s.ports := rfl
@[simp] theorem State.setSlot_serial (y : Bay) (o : Option Shot) : (s.setSlot y o).serial = s.serial := rfl
@[simp] theorem State.setSlot_recipes (y : Bay) (o : Option Shot) : (s.setSlot y o).recipes = s.recipes := rfl
@[simp] theorem State.setSlot_bays (y : Bay) (o : Option Shot) : (s.setSlot y o).bays = s.bays := rfl
@[simp] theorem State.setSlot_upperCount (y : Bay) (o : Option Shot) : (s.setSlot y o).upperCount = s.upperCount := rfl
@[simp] theorem State.setSlot_heat (y : Bay) (o : Option Shot) : (s.setSlot y o).heat = s.heat := rfl
@[simp] theorem State.setSlot_cureMarks (y : Bay) (o : Option Shot) : (s.setSlot y o).cureMarks = s.cureMarks := rfl
@[simp] theorem State.setSlot_channels (y : Bay) (o : Option Shot) : (s.setSlot y o).channels = s.channels := rfl
@[simp] theorem State.setSlot_weigh (y : Bay) (o : Option Shot) : (s.setSlot y o).weigh = s.weigh := rfl
@[simp] theorem State.setSlot_permit (y : Bay) (o : Option Shot) : (s.setSlot y o).permit = s.permit := rfl
@[simp] theorem State.setSlot_eject (y : Bay) (o : Option Shot) : (s.setSlot y o).eject = s.eject := rfl
@[simp] theorem State.setSlot_history (y : Bay) (o : Option Shot) : (s.setSlot y o).history = s.history := rfl
@[simp] theorem State.setSlot_sensor (y : Bay) (o : Option Shot) : (s.setSlot y o).sensor = s.sensor := rfl

@[simp] theorem State.setBay_bays (y : Bay) (r : BayRecord) : (s.setBay y r).bays = s.bays.set y r := rfl
@[simp] theorem State.setBay_pending (y : Bay) (r : BayRecord) : (s.setBay y r).pending = s.pending := rfl
@[simp] theorem State.setBay_phase (y : Bay) (r : BayRecord) : (s.setBay y r).phase = s.phase := rfl
@[simp] theorem State.setBay_pins (y : Bay) (r : BayRecord) : (s.setBay y r).pins = s.pins := rfl
@[simp] theorem State.setBay_retainTripped (y : Bay) (r : BayRecord) : (s.setBay y r).retainTripped = s.retainTripped := rfl
@[simp] theorem State.setBay_supply (y : Bay) (r : BayRecord) : (s.setBay y r).supply = s.supply := rfl
@[simp] theorem State.setBay_clock (y : Bay) (r : BayRecord) : (s.setBay y r).clock = s.clock := rfl
@[simp] theorem State.setBay_lastHeat (y : Bay) (r : BayRecord) : (s.setBay y r).lastHeat = s.lastHeat := rfl
@[simp] theorem State.setBay_cfg (y : Bay) (r : BayRecord) : (s.setBay y r).cfg = s.cfg := rfl
@[simp] theorem State.setBay_ports (y : Bay) (r : BayRecord) : (s.setBay y r).ports = s.ports := rfl
@[simp] theorem State.setBay_slots (y : Bay) (r : BayRecord) : (s.setBay y r).slots = s.slots := rfl
@[simp] theorem State.setBay_serial (y : Bay) (r : BayRecord) : (s.setBay y r).serial = s.serial := rfl
@[simp] theorem State.setBay_recipes (y : Bay) (r : BayRecord) : (s.setBay y r).recipes = s.recipes := rfl
@[simp] theorem State.setBay_upperCount (y : Bay) (r : BayRecord) : (s.setBay y r).upperCount = s.upperCount := rfl
@[simp] theorem State.setBay_heat (y : Bay) (r : BayRecord) : (s.setBay y r).heat = s.heat := rfl
@[simp] theorem State.setBay_cureMarks (y : Bay) (r : BayRecord) : (s.setBay y r).cureMarks = s.cureMarks := rfl
@[simp] theorem State.setBay_channels (y : Bay) (r : BayRecord) : (s.setBay y r).channels = s.channels := rfl
@[simp] theorem State.setBay_weigh (y : Bay) (r : BayRecord) : (s.setBay y r).weigh = s.weigh := rfl
@[simp] theorem State.setBay_permit (y : Bay) (r : BayRecord) : (s.setBay y r).permit = s.permit := rfl
@[simp] theorem State.setBay_eject (y : Bay) (r : BayRecord) : (s.setBay y r).eject = s.eject := rfl
@[simp] theorem State.setBay_history (y : Bay) (r : BayRecord) : (s.setBay y r).history = s.history := rfl
@[simp] theorem State.setBay_sensor (y : Bay) (r : BayRecord) : (s.setBay y r).sensor = s.sensor := rfl

@[simp] theorem State.mapSlotUse_pending (i : Ix16) (f : Nat → Nat) : (s.mapSlotUse i f).pending = s.pending := rfl
@[simp] theorem State.mapSlotUse_phase (i : Ix16) (f : Nat → Nat) : (s.mapSlotUse i f).phase = s.phase := rfl
@[simp] theorem State.mapSlotUse_pins (i : Ix16) (f : Nat → Nat) : (s.mapSlotUse i f).pins = s.pins := rfl
@[simp] theorem State.mapSlotUse_retainTripped (i : Ix16) (f : Nat → Nat) : (s.mapSlotUse i f).retainTripped = s.retainTripped := rfl
@[simp] theorem State.mapSlotUse_supply (i : Ix16) (f : Nat → Nat) : (s.mapSlotUse i f).supply = s.supply := rfl
@[simp] theorem State.mapSlotUse_clock (i : Ix16) (f : Nat → Nat) : (s.mapSlotUse i f).clock = s.clock := rfl
@[simp] theorem State.mapSlotUse_lastHeat (i : Ix16) (f : Nat → Nat) : (s.mapSlotUse i f).lastHeat = s.lastHeat := rfl
@[simp] theorem State.mapSlotUse_cfg (i : Ix16) (f : Nat → Nat) : (s.mapSlotUse i f).cfg = s.cfg := rfl
@[simp] theorem State.mapSlotUse_ports (i : Ix16) (f : Nat → Nat) : (s.mapSlotUse i f).ports = s.ports := rfl
@[simp] theorem State.mapSlotUse_slots (i : Ix16) (f : Nat → Nat) : (s.mapSlotUse i f).slots = s.slots := rfl
@[simp] theorem State.mapSlotUse_serial (i : Ix16) (f : Nat → Nat) : (s.mapSlotUse i f).serial = s.serial := rfl
@[simp] theorem State.mapSlotUse_bays (i : Ix16) (f : Nat → Nat) : (s.mapSlotUse i f).bays = s.bays := rfl
@[simp] theorem State.mapSlotUse_upperCount (i : Ix16) (f : Nat → Nat) : (s.mapSlotUse i f).upperCount = s.upperCount := rfl
@[simp] theorem State.mapSlotUse_heat (i : Ix16) (f : Nat → Nat) : (s.mapSlotUse i f).heat = s.heat := rfl
@[simp] theorem State.mapSlotUse_cureMarks (i : Ix16) (f : Nat → Nat) : (s.mapSlotUse i f).cureMarks = s.cureMarks := rfl
@[simp] theorem State.mapSlotUse_channels (i : Ix16) (f : Nat → Nat) : (s.mapSlotUse i f).channels = s.channels := rfl
@[simp] theorem State.mapSlotUse_weigh (i : Ix16) (f : Nat → Nat) : (s.mapSlotUse i f).weigh = s.weigh := rfl
@[simp] theorem State.mapSlotUse_permit (i : Ix16) (f : Nat → Nat) : (s.mapSlotUse i f).permit = s.permit := rfl
@[simp] theorem State.mapSlotUse_eject (i : Ix16) (f : Nat → Nat) : (s.mapSlotUse i f).eject = s.eject := rfl
@[simp] theorem State.mapSlotUse_history (i : Ix16) (f : Nat → Nat) : (s.mapSlotUse i f).history = s.history := rfl
@[simp] theorem State.mapSlotUse_sensor (i : Ix16) (f : Nat → Nat) : (s.mapSlotUse i f).sensor = s.sensor := rfl

@[simp] theorem State.setNode_pending (n : Ix16) (x : Node) : (s.setNode n x).pending = s.pending := rfl
@[simp] theorem State.setNode_phase (n : Ix16) (x : Node) : (s.setNode n x).phase = s.phase := rfl
@[simp] theorem State.setNode_pins (n : Ix16) (x : Node) : (s.setNode n x).pins = s.pins := rfl
@[simp] theorem State.setNode_retainTripped (n : Ix16) (x : Node) : (s.setNode n x).retainTripped = s.retainTripped := rfl
@[simp] theorem State.setNode_supply (n : Ix16) (x : Node) : (s.setNode n x).supply = s.supply := rfl
@[simp] theorem State.setNode_clock (n : Ix16) (x : Node) : (s.setNode n x).clock = s.clock := rfl
@[simp] theorem State.setNode_lastHeat (n : Ix16) (x : Node) : (s.setNode n x).lastHeat = s.lastHeat := rfl
@[simp] theorem State.setNode_cfg (n : Ix16) (x : Node) : (s.setNode n x).cfg = s.cfg := rfl
@[simp] theorem State.setNode_ports (n : Ix16) (x : Node) : (s.setNode n x).ports = s.ports := rfl
@[simp] theorem State.setNode_slots (n : Ix16) (x : Node) : (s.setNode n x).slots = s.slots := rfl
@[simp] theorem State.setNode_serial (n : Ix16) (x : Node) : (s.setNode n x).serial = s.serial := rfl
@[simp] theorem State.setNode_recipes (n : Ix16) (x : Node) : (s.setNode n x).recipes = s.recipes := rfl
@[simp] theorem State.setNode_bays (n : Ix16) (x : Node) : (s.setNode n x).bays = s.bays := rfl
@[simp] theorem State.setNode_upperCount (n : Ix16) (x : Node) : (s.setNode n x).upperCount = s.upperCount := rfl
@[simp] theorem State.setNode_heat (n : Ix16) (x : Node) : (s.setNode n x).heat = s.heat := rfl
@[simp] theorem State.setNode_cureMarks (n : Ix16) (x : Node) : (s.setNode n x).cureMarks = s.cureMarks := rfl
@[simp] theorem State.setNode_channels (n : Ix16) (x : Node) : (s.setNode n x).channels = s.channels := rfl
@[simp] theorem State.setNode_weigh (n : Ix16) (x : Node) : (s.setNode n x).weigh = s.weigh := rfl
@[simp] theorem State.setNode_permit (n : Ix16) (x : Node) : (s.setNode n x).permit = s.permit := rfl
@[simp] theorem State.setNode_eject (n : Ix16) (x : Node) : (s.setNode n x).eject = s.eject := rfl
@[simp] theorem State.setNode_history (n : Ix16) (x : Node) : (s.setNode n x).history = s.history := rfl

@[simp] theorem State.emptyChannel_channels (c : Chan) : (s.emptyChannel c).channels = s.channels.set c Channel.start := rfl
@[simp] theorem State.emptyChannel_pending (c : Chan) : (s.emptyChannel c).pending = s.pending := rfl
@[simp] theorem State.emptyChannel_phase (c : Chan) : (s.emptyChannel c).phase = s.phase := rfl
@[simp] theorem State.emptyChannel_pins (c : Chan) : (s.emptyChannel c).pins = s.pins := rfl
@[simp] theorem State.emptyChannel_retainTripped (c : Chan) : (s.emptyChannel c).retainTripped = s.retainTripped := rfl
@[simp] theorem State.emptyChannel_supply (c : Chan) : (s.emptyChannel c).supply = s.supply := rfl
@[simp] theorem State.emptyChannel_clock (c : Chan) : (s.emptyChannel c).clock = s.clock := rfl
@[simp] theorem State.emptyChannel_lastHeat (c : Chan) : (s.emptyChannel c).lastHeat = s.lastHeat := rfl
@[simp] theorem State.emptyChannel_cfg (c : Chan) : (s.emptyChannel c).cfg = s.cfg := rfl
@[simp] theorem State.emptyChannel_ports (c : Chan) : (s.emptyChannel c).ports = s.ports := rfl
@[simp] theorem State.emptyChannel_slots (c : Chan) : (s.emptyChannel c).slots = s.slots := rfl
@[simp] theorem State.emptyChannel_serial (c : Chan) : (s.emptyChannel c).serial = s.serial := rfl
@[simp] theorem State.emptyChannel_recipes (c : Chan) : (s.emptyChannel c).recipes = s.recipes := rfl
@[simp] theorem State.emptyChannel_bays (c : Chan) : (s.emptyChannel c).bays = s.bays := rfl
@[simp] theorem State.emptyChannel_upperCount (c : Chan) : (s.emptyChannel c).upperCount = s.upperCount := rfl
@[simp] theorem State.emptyChannel_heat (c : Chan) : (s.emptyChannel c).heat = s.heat := rfl
@[simp] theorem State.emptyChannel_cureMarks (c : Chan) : (s.emptyChannel c).cureMarks = s.cureMarks := rfl
@[simp] theorem State.emptyChannel_weigh (c : Chan) : (s.emptyChannel c).weigh = s.weigh := rfl
@[simp] theorem State.emptyChannel_permit (c : Chan) : (s.emptyChannel c).permit = s.permit := rfl
@[simp] theorem State.emptyChannel_eject (c : Chan) : (s.emptyChannel c).eject = s.eject := rfl
@[simp] theorem State.emptyChannel_history (c : Chan) : (s.emptyChannel c).history = s.history := rfl
@[simp] theorem State.emptyChannel_sensor (c : Chan) : (s.emptyChannel c).sensor = s.sensor := rfl

@[simp] theorem State.freeSlot_pending : (s.freeSlot).pending = s.pending := rfl
@[simp] theorem State.freeSlot_phase : (s.freeSlot).phase = s.phase := rfl
@[simp] theorem State.freeSlot_pins : (s.freeSlot).pins = s.pins := rfl
@[simp] theorem State.freeSlot_retainTripped : (s.freeSlot).retainTripped = s.retainTripped := rfl
@[simp] theorem State.freeSlot_supply : (s.freeSlot).supply = s.supply := rfl
@[simp] theorem State.freeSlot_clock : (s.freeSlot).clock = s.clock := rfl
@[simp] theorem State.freeSlot_lastHeat : (s.freeSlot).lastHeat = s.lastHeat := rfl
@[simp] theorem State.freeSlot_cfg : (s.freeSlot).cfg = s.cfg := rfl
@[simp] theorem State.freeSlot_ports : (s.freeSlot).ports = s.ports := rfl
@[simp] theorem State.freeSlot_slots : (s.freeSlot).slots = s.slots := rfl
@[simp] theorem State.freeSlot_serial : (s.freeSlot).serial = s.serial := rfl
@[simp] theorem State.freeSlot_recipes : (s.freeSlot).recipes = s.recipes := rfl
@[simp] theorem State.freeSlot_bays : (s.freeSlot).bays = s.bays := rfl
@[simp] theorem State.freeSlot_upperCount : (s.freeSlot).upperCount = s.upperCount := rfl
@[simp] theorem State.freeSlot_heat : (s.freeSlot).heat = s.heat := rfl
@[simp] theorem State.freeSlot_cureMarks : (s.freeSlot).cureMarks = s.cureMarks := rfl
@[simp] theorem State.freeSlot_channels : (s.freeSlot).channels = s.channels := rfl
@[simp] theorem State.freeSlot_permit : (s.freeSlot).permit = s.permit := rfl
@[simp] theorem State.freeSlot_eject : (s.freeSlot).eject = s.eject := rfl
@[simp] theorem State.freeSlot_history : (s.freeSlot).history = s.history := rfl
@[simp] theorem State.freeSlot_sensor : (s.freeSlot).sensor = s.sensor := rfl

@[simp] theorem State.setArea_pending (r : Area) (x : AreaRecord) : (s.setArea r x).pending = s.pending := rfl
@[simp] theorem State.setArea_phase (r : Area) (x : AreaRecord) : (s.setArea r x).phase = s.phase := rfl
@[simp] theorem State.setArea_pins (r : Area) (x : AreaRecord) : (s.setArea r x).pins = s.pins := rfl
@[simp] theorem State.setArea_retainTripped (r : Area) (x : AreaRecord) : (s.setArea r x).retainTripped = s.retainTripped := rfl
@[simp] theorem State.setArea_supply (r : Area) (x : AreaRecord) : (s.setArea r x).supply = s.supply := rfl
@[simp] theorem State.setArea_clock (r : Area) (x : AreaRecord) : (s.setArea r x).clock = s.clock := rfl
@[simp] theorem State.setArea_lastHeat (r : Area) (x : AreaRecord) : (s.setArea r x).lastHeat = s.lastHeat := rfl
@[simp] theorem State.setArea_cfg (r : Area) (x : AreaRecord) : (s.setArea r x).cfg = s.cfg := rfl
@[simp] theorem State.setArea_ports (r : Area) (x : AreaRecord) : (s.setArea r x).ports = s.ports := rfl
@[simp] theorem State.setArea_slots (r : Area) (x : AreaRecord) : (s.setArea r x).slots = s.slots := rfl
@[simp] theorem State.setArea_serial (r : Area) (x : AreaRecord) : (s.setArea r x).serial = s.serial := rfl
@[simp] theorem State.setArea_recipes (r : Area) (x : AreaRecord) : (s.setArea r x).recipes = s.recipes := rfl
@[simp] theorem State.setArea_bays (r : Area) (x : AreaRecord) : (s.setArea r x).bays = s.bays := rfl
@[simp] theorem State.setArea_upperCount (r : Area) (x : AreaRecord) : (s.setArea r x).upperCount = s.upperCount := rfl
@[simp] theorem State.setArea_heat (r : Area) (x : AreaRecord) : (s.setArea r x).heat = s.heat := rfl
@[simp] theorem State.setArea_cureMarks (r : Area) (x : AreaRecord) : (s.setArea r x).cureMarks = s.cureMarks := rfl
@[simp] theorem State.setArea_channels (r : Area) (x : AreaRecord) : (s.setArea r x).channels = s.channels := rfl
@[simp] theorem State.setArea_weigh (r : Area) (x : AreaRecord) : (s.setArea r x).weigh = s.weigh := rfl
@[simp] theorem State.setArea_eject (r : Area) (x : AreaRecord) : (s.setArea r x).eject = s.eject := rfl
@[simp] theorem State.setArea_history (r : Area) (x : AreaRecord) : (s.setArea r x).history = s.history := rfl
@[simp] theorem State.setArea_sensor (r : Area) (x : AreaRecord) : (s.setArea r x).sensor = s.sensor := rfl

@[simp] theorem State.holdChanged_pending (v : Bool) (hs : List Hold) : (s.holdChanged v hs).pending = s.pending := rfl
@[simp] theorem State.holdChanged_phase (v : Bool) (hs : List Hold) : (s.holdChanged v hs).phase = s.phase := rfl
@[simp] theorem State.holdChanged_pins (v : Bool) (hs : List Hold) : (s.holdChanged v hs).pins = s.pins := rfl
@[simp] theorem State.holdChanged_retainTripped (v : Bool) (hs : List Hold) : (s.holdChanged v hs).retainTripped = s.retainTripped := rfl
@[simp] theorem State.holdChanged_supply (v : Bool) (hs : List Hold) : (s.holdChanged v hs).supply = s.supply := rfl
@[simp] theorem State.holdChanged_clock (v : Bool) (hs : List Hold) : (s.holdChanged v hs).clock = s.clock := rfl
@[simp] theorem State.holdChanged_lastHeat (v : Bool) (hs : List Hold) : (s.holdChanged v hs).lastHeat = s.lastHeat := rfl
@[simp] theorem State.holdChanged_cfg (v : Bool) (hs : List Hold) : (s.holdChanged v hs).cfg = s.cfg := rfl
@[simp] theorem State.holdChanged_slots (v : Bool) (hs : List Hold) : (s.holdChanged v hs).slots = s.slots := rfl
@[simp] theorem State.holdChanged_serial (v : Bool) (hs : List Hold) : (s.holdChanged v hs).serial = s.serial := rfl
@[simp] theorem State.holdChanged_recipes (v : Bool) (hs : List Hold) : (s.holdChanged v hs).recipes = s.recipes := rfl
@[simp] theorem State.holdChanged_bays (v : Bool) (hs : List Hold) : (s.holdChanged v hs).bays = s.bays := rfl
@[simp] theorem State.holdChanged_upperCount (v : Bool) (hs : List Hold) : (s.holdChanged v hs).upperCount = s.upperCount := rfl
@[simp] theorem State.holdChanged_heat (v : Bool) (hs : List Hold) : (s.holdChanged v hs).heat = s.heat := rfl
@[simp] theorem State.holdChanged_cureMarks (v : Bool) (hs : List Hold) : (s.holdChanged v hs).cureMarks = s.cureMarks := rfl
@[simp] theorem State.holdChanged_channels (v : Bool) (hs : List Hold) : (s.holdChanged v hs).channels = s.channels := rfl
@[simp] theorem State.holdChanged_weigh (v : Bool) (hs : List Hold) : (s.holdChanged v hs).weigh = s.weigh := rfl
@[simp] theorem State.holdChanged_permit (v : Bool) (hs : List Hold) : (s.holdChanged v hs).permit = s.permit := rfl
@[simp] theorem State.holdChanged_eject (v : Bool) (hs : List Hold) : (s.holdChanged v hs).eject = s.eject := rfl
@[simp] theorem State.holdChanged_history (v : Bool) (hs : List Hold) : (s.holdChanged v hs).history = s.history := rfl
@[simp] theorem State.holdChanged_sensor (v : Bool) (hs : List Hold) : (s.holdChanged v hs).sensor = s.sensor := rfl

end Sys2Proof.Machine
end

