-- ==== Sys2Proof/Laws/Shapes.lean ====
section
/-!
SUPPORT. The shape of each shared operation: the fields of State it may change, every other field
being the one it was given. A frame of a command follows from the shapes of the operations it is
made of, without unfolding any of them.
-/

namespace Sys2Proof.Machine

open Sys2Proof

variable (s : State)

/-! ### Shots -/

theorem State.mapShot_shape (y : Bay) (f : Shot → Shot) :
    ∃ sl, s.mapShot y f = { s with slots := sl } := ⟨_, rfl⟩

theorem State.addExc_shape (y : Bay) (e : Exc) : ∃ sl, s.addExc y e = { s with slots := sl } :=
  ⟨_, rfl⟩

theorem State.advance_shape (y : Bay) (st : Stage) :
    ∃ sl po, s.advance y st = { s with slots := sl, ports := po } := by
  unfold State.advance
  split
  · exact ⟨_, _, rfl⟩
  · exact ⟨_, _, rfl⟩

/-! ### The close grant and the heat block -/

/-- R119: a withdrawal leaves no close grant and touches nothing else but the ports. -/
theorem State.withdrawClose_shape (c z : Nat) :
    ∃ po, s.withdrawClose c z = { s with permit.closeGrant := none, ports := po } := by
  unfold State.withdrawClose
  split
  · rename_i h
    refine ⟨s.ports, ?_⟩
    cases s with | mk => rename_i p _ _ _; cases p; simp_all
  · exact ⟨_, rfl⟩

/-- R63: the flags handed over leave the close grant or withdraw it. -/
theorem State.handFlags_shape (old : Zones Zone) :
    ∃ g po, (g = s.permit.closeGrant ∨ g = none) ∧
      s.handFlags old = { s with permit.closeGrant := g, ports := po } := by
  unfold State.handFlags
  split
  · exact ⟨_, _, .inl rfl, rfl⟩
  · split
    · exact ⟨_, _, .inl rfl, rfl⟩
    · obtain ⟨po, h⟩ := s.withdrawClose_shape 2 (ZoneId.number ‹_›)
      exact ⟨_, _, .inr rfl, h⟩

/-- R43, R45: targets derived again touch the zones, the close grant and the ports. -/
theorem State.deriveZones_shape (always : Bool) :
    ∃ zs g po, (g = s.permit.closeGrant ∨ g = none) ∧
      s.deriveZones always = { s with heat.zones := zs, permit.closeGrant := g, ports := po } := by
  unfold State.deriveZones
  obtain ⟨g, po, hg, h⟩ := State.handFlags_shape
    { s with heat.zones := Zones.ofFn fun z =>
        ((s.heat.zones.get z).rederive (!(s.heat.zones.get z).enabled || s.heat.mode == .off)
          (s.zoneTarget z)).rejudged (s.heat.zones.get z) (s.zoneRecipe z) always } s.heat.zones
  exact ⟨_, g, po, hg, h⟩

theorem State.rederiveZones_shape :
    ∃ zs g po, (g = s.permit.closeGrant ∨ g = none) ∧
      s.rederiveZones = { s with heat.zones := zs, permit.closeGrant := g, ports := po } :=
  s.deriveZones_shape false

/-- R64: a change of mode touches the mode, the retained mode, the zones, the close grant and the
ports. -/
theorem State.setMode_shape (m : HeatMode) :
    ∃ zs g po, (g = s.permit.closeGrant ∨ g = none) ∧
      s.setMode m
        = { s with heat.mode := m, heat.zones := zs,
                   lastHeat.mode := (if s.heat.mode = m then s.lastHeat.mode else m),
                   permit.closeGrant := g, ports := po } := by
  unfold State.setMode
  split
  · rename_i h
    refine ⟨s.heat.zones, s.permit.closeGrant, s.ports, .inl rfl, ?_⟩
    subst h
    rfl
  · split
    · obtain ⟨po, h1⟩ := State.withdrawClose_shape
        (State.postSubs { s with heat.mode := m, lastHeat.mode := m }
          { code := .heatMode, v1 := m.code, v2 := s.heat.mode.code }) 3 0
      obtain ⟨zs, g, po', hg, h2⟩ := State.deriveZones_shape
        (State.withdrawClose (State.postSubs { s with heat.mode := m, lastHeat.mode := m }
          { code := .heatMode, v1 := m.code, v2 := s.heat.mode.code }) 3) true
      rw [h1] at h2 hg
      refine ⟨zs, g, po', .inr ?_, ?_⟩
      · rcases hg with hg | hg <;> exact hg
      · simp only [h1]
        exact h2
    · obtain ⟨zs, g, po', hg, h2⟩ := State.deriveZones_shape
        (State.postSubs { s with heat.mode := m, lastHeat.mode := m }
          { code := .heatMode, v1 := m.code, v2 := s.heat.mode.code }) true
      exact ⟨zs, g, po', hg, h2⟩

theorem State.wake_shape :
    ∃ md lm zs g po, (g = s.permit.closeGrant ∨ g = none) ∧
      s.wake = { s with heat.mode := md, heat.zones := zs, lastHeat.mode := lm,
                        permit.closeGrant := g, ports := po } := by
  unfold State.wake
  split
  · obtain ⟨zs, g, po, hg, h⟩ := s.setMode_shape .run
    exact ⟨_, _, zs, g, po, hg, h⟩
  · exact ⟨_, _, _, _, _, .inl rfl, rfl⟩

theorem State.idleSettled_shape : ∃ n, s.idleSettled = { s with heat.idleTimer := n } := by
  unfold State.idleSettled
  split
  · exact ⟨_, rfl⟩
  · exact ⟨_, rfl⟩

/-! ### The permit block -/

theorem State.setPress_shape (x : PressState) :
    ∃ po, s.setPress x = { s with permit.press := x, ports := po } := by
  unfold State.setPress
  split
  · rename_i h
    subst h
    exact ⟨_, rfl⟩
  · exact ⟨_, rfl⟩

theorem State.setPosition_shape (x : Position) :
    ∃ zs g po, (g = s.permit.closeGrant ∨ g = none) ∧
      s.setPosition x
        = { s with permit.position := x, permit.closeGrant := g, heat.zones := zs, ports := po } := by
  unfold State.setPosition
  split
  · rename_i h
    subst h
    exact ⟨_, _, _, .inl rfl, rfl⟩
  · obtain ⟨zs, g, po, hg, h⟩ := State.rederiveZones_shape
      (State.postSubs { s with permit.position := x }
        { code := .shuttlePosition, v1 := x.code, v2 := s.permit.position.code })
    exact ⟨zs, g, po, hg, h⟩

/-- R115: a withdrawal leaves no shuttle grant; the position changes only with it. -/
theorem State.withdrawShuttle_shape (c : Nat) :
    ∃ x g zs po, (g = s.permit.closeGrant ∨ g = none) ∧
      x = (if s.permit.shuttleGrant.isSome then Position.unknown else s.permit.position) ∧
      s.withdrawShuttle c
        = { s with permit.shuttleGrant := none, permit.position := x, permit.closeGrant := g,
                   heat.zones := zs, ports := po } := by
  unfold State.withdrawShuttle
  cases hg : s.permit.shuttleGrant with
  | none =>
    refine ⟨_, s.permit.closeGrant, s.heat.zones, s.ports, .inl rfl, rfl, ?_⟩
    cases s with | mk => rename_i p _ _ _; cases p; simp_all
  | some y =>
    obtain ⟨zs, g, po, hg', h1⟩ :=
      State.setPosition_shape { s with permit.shuttleGrant := none } .unknown
    refine ⟨.unknown, g, zs, (State.withdrawShuttle s c).ports, hg', rfl, ?_⟩
    simp only [State.withdrawShuttle, hg, h1]
    rfl

theorem State.blockGrants_shape (sc : Scope) :
    ∃ h x g zs po, (g = s.permit.closeGrant ∨ g = none) ∧ (h = s.permit.shuttleGrant ∨ h = none) ∧
      s.blockGrants sc
        = { s with permit.shuttleGrant := h, permit.position := x, permit.closeGrant := g,
                   heat.zones := zs, ports := po } := by
  unfold State.blockGrants
  cases sc with
  | cell =>
    obtain ⟨x, g, zs, po, -, -, h1⟩ := s.withdrawShuttle_shape 1
    simp only [h1]
    obtain ⟨po', h2⟩ := State.withdrawClose_shape
      { s with permit.shuttleGrant := none, permit.position := x, permit.closeGrant := g,
               heat.zones := zs, ports := po } 1 0
    exact ⟨none, x, none, zs, po', .inr rfl, .inr rfl, h2⟩
  | bay y =>
    simp only
    split
    · obtain ⟨po, h⟩ := s.withdrawClose_shape 1 0
      exact ⟨_, _, none, _, po, .inr rfl, .inl rfl, h⟩
    · exact ⟨_, _, _, _, _, .inl rfl, .inl rfl, rfl⟩

theorem State.setPressSilent_shape (v : Bool) :
    ∃ po, s.setPressSilent v = { s with permit.selfHolds.pressSilent := v, ports := po } := by
  unfold State.setPressSilent
  split
  · rename_i h
    subst h
    exact ⟨_, rfl⟩
  · exact ⟨_, rfl⟩

theorem State.setPowerWarn_shape (v : Bool) :
    ∃ po, s.setPowerWarn v = { s with permit.selfHolds.powerWarn := v, ports := po } := by
  unfold State.setPowerWarn
  split
  · rename_i h
    subst h
    exact ⟨_, rfl⟩
  · exact ⟨_, rfl⟩

/-- R38: the mould-check flag, its hold entry and a close grant of the bay. -/
theorem State.setMouldCheck_shape (y : Bay) (v : Bool) :
    ∃ b m g po, (g = s.permit.closeGrant ∨ g = none) ∧
      s.setMouldCheck y v
        = { s with bays := b, permit.selfHolds.mouldCheck := m, permit.closeGrant := g,
                   ports := po } := by
  unfold State.setMouldCheck
  split
  · exact ⟨_, _, _, _, .inl rfl, rfl⟩
  · dsimp only
    split
    · unfold State.blockGrants
      dsimp only
      split
      · obtain ⟨po, h⟩ := State.withdrawClose_shape
          (State.holdChanged
            { s.setBay y { s.bays.get y with mouldCheck := v } with
              permit.selfHolds.mouldCheck :=
                (s.setBay y { s.bays.get y with mouldCheck := v }).permit.selfHolds.mouldCheck.set y v }
            v [⟨.self, .bay y, mouldCheckReason⟩]) 1 0
        exact ⟨_, _, none, po, .inr rfl, h⟩
      · exact ⟨_, _, _, _, .inl rfl, rfl⟩
    · exact ⟨_, _, _, _, .inl rfl, rfl⟩

theorem State.promote_shape (r : Area) :
    ∃ ar po, s.promote r = { s with permit.areas := ar, ports := po } := by
  unfold State.promote
  dsimp only
  split
  · split
    · exact ⟨_, _, rfl⟩
    · exact ⟨_, _, rfl⟩
  · exact ⟨_, _, rfl⟩

theorem State.promoteBoth_shape :
    ∃ ar po, s.promoteBoth = { s with permit.areas := ar, ports := po } := by
  unfold State.promoteBoth
  obtain ⟨ar, po, h⟩ := s.promote_shape .press
  obtain ⟨ar', po', h'⟩ := State.promote_shape (s.promote .press) .load
  rw [h'] 
  exact ⟨ar', po', by rw [h]⟩

theorem State.promoteAfter_shape (before : State) :
    ∃ ar po, s.promoteAfter before = { s with permit.areas := ar, ports := po } := by
  unfold State.promoteAfter
  split
  · exact s.promoteBoth_shape
  · split
    · exact s.promote_shape .press
    · exact ⟨_, _, rfl⟩

/-- R127, R66: what follows every event touches the areas, the idle timer and the ports. -/
theorem State.settle_shape (before : State) :
    ∃ ar n po, s.settle before = { s with permit.areas := ar, heat.idleTimer := n, ports := po } := by
  unfold State.settle
  obtain ⟨ar, po, h⟩ := s.promoteAfter_shape before
  obtain ⟨n, h'⟩ := State.idleSettled_shape (s.promoteAfter before)
  exact ⟨ar, n, po, by rw [h', h]⟩

/-- R127: without the end of a grant there is no promotion. -/
theorem State.settle_of_grants {before : State}
    (h1 : s.permit.closeGrant.isSome = true ∨ before.permit.closeGrant = none)
    (h2 : s.permit.shuttleGrant.isSome = true ∨ before.permit.shuttleGrant = none) :
    s.settle before = s.idleSettled := by
  unfold State.settle State.promoteAfter
  have f : ∀ {α : Type} (o : Option α), o.isSome = true → o.isNone = false := by
    intro α o h; cases o <;> simp_all
  rcases h1 with h1 | h1 <;> rcases h2 with h2 | h2 <;> simp [h1, h2, f]

/-- R127: without a change of a grant there is no promotion. -/
theorem State.settle_of_same {before : State}
    (h1 : s.permit.closeGrant = before.permit.closeGrant)
    (h2 : s.permit.shuttleGrant = before.permit.shuttleGrant) :
    s.settle before = s.idleSettled := by
  apply State.settle_of_grants
  · rw [h1]; cases before.permit.closeGrant <;> simp
  · rw [h2]; cases before.permit.shuttleGrant <;> simp

/-! ### Filing -/

theorem State.judgeNearFull_shape :
    ∃ a po, s.judgeNearFull = { s with history.armed := a, ports := po } := by
  unfold State.judgeNearFull State.nearFullNotice
  split
  · exact ⟨_, _, rfl⟩
  · split
    · exact ⟨_, _, rfl⟩
    · split
      · exact ⟨_, _, rfl⟩
      · exact ⟨_, _, rfl⟩

theorem State.noteRelease_shape (a b c : Nat) (y : Option Bay) :
    ∃ po, s.noteRelease a b c y = { s with ports := po } := by
  unfold State.noteRelease
  split
  · exact ⟨_, rfl⟩
  · exact ⟨_, rfl⟩

theorem State.raiseCounts_shape (y : Bay) (sh : Shot) :
    ∃ po, s.raiseCounts y sh
      = { s with
          upperCount := satAdd 65535 s.upperCount 1
          bays := s.bays.set y { s.bays.get y with
            lowerCount := satAdd 65535 (s.bays.get y).lowerCount 1
            shotsOnBinding := satAdd 4294967295 (s.bays.get y).shotsOnBinding 1 }
          ports := po } := by
  unfold State.raiseCounts
  dsimp only
  split
  · exact ⟨_, rfl⟩
  · rename_i c _
    obtain ⟨po, h⟩ := State.noteRelease_shape
      (State.setBay { s with upperCount := satAdd 65535 s.upperCount 1 } y
        { s.bays.get y with
          lowerCount := satAdd 65535 (s.bays.get y).lowerCount 1
          shotsOnBinding := satAdd 4294967295 (s.bays.get y).shotsOnBinding 1 })
      (s.bays.get y).lowerCount (satAdd 65535 (s.bays.get y).lowerCount 1) c.lowerInterval (some y)
    rw [h]
    obtain ⟨po', h'⟩ := State.noteRelease_shape
      { State.setBay { s with upperCount := satAdd 65535 s.upperCount 1 } y
          { s.bays.get y with
            lowerCount := satAdd 65535 (s.bays.get y).lowerCount 1
            shotsOnBinding := satAdd 4294967295 (s.bays.get y).shotsOnBinding 1 }
        with ports := po }
      s.upperCount (satAdd 65535 s.upperCount 1) c.upperInterval none
    exact ⟨po', h'⟩

/-! ### Events and requests -/

/-- An event of the running part. -/
theorem State.event_running (f : State → State) (h : s.phase = .running) :
    s.event f = (f s).settle s := by
  simp [State.event, State.isRunning, h]

/-- With no block acting an event has no effect. -/
theorem State.event_stopped (f : State → State) (h : s.phase ≠ .running) : s.event f = s := by
  simp [State.event, State.isRunning, h]

/-- R178, step 4: the owner acts on the request its port has routed. -/
theorem State.serve_ready {p : PortId} {i : Instr} (h : Ready s p i)
    (act : State → State × Reply) :
    s.serve p i act = (((act s).1).answer p i (act s).2).settle s := by
  obtain ⟨h1, h2⟩ := h
  simp [State.serve, State.event_running, h1, h2]

/-- A request whose owner's act leaves both grants as they are is answered without a promotion. -/
theorem answers_of_act {s t : State} {p : PortId} {i : Instr} {act : State → State × Reply}
    {r : Reply} (h : Ready s p i) (he : exec i s = .next (s.serve p i act)) (ha : act s = (t, r))
    (h1 : t.permit.closeGrant = s.permit.closeGrant)
    (h2 : t.permit.shuttleGrant = s.permit.shuttleGrant) : Answers i s p t r := by
  unfold Answers
  rw [he, State.serve_ready _ h, ha]
  exact congrArg _ (State.settle_of_same _ h1 h2)

/-- A request whose owner's act changes nothing is turned away with its reply. -/
theorem turnsAway_of_act {s : State} {p : PortId} {i : Instr} {act : State → State × Reply}
    {r : Reply} (h : Ready s p i) (he : exec i s = .next (s.serve p i act)) (ha : act s = (s, r)) :
    TurnsAway i s p r :=
  answers_of_act h he ha rfl rfl

/-- A request whose owner's act may end a grant. -/
theorem answersEnding_of_act {s t : State} {p : PortId} {i : Instr}
    {act : State → State × Reply} {r : Reply} (h : Ready s p i)
    (he : exec i s = .next (s.serve p i act)) (ha : act s = (t, r)) : AnswersEnding i s p t r := by
  unfold AnswersEnding
  rw [he, State.serve_ready _ h, ha]

/-! ### Frames and sensor replies -/

/-- R180: a flag set, with its report, touches the ports alone. -/
theorem State.raiseFlag_shape (p : PortId) (n : FlagName) :
    ∃ po, s.raiseFlag p n = { s with ports := po } := by
  unfold State.raiseFlag
  dsimp only
  split
  · exact ⟨_, rfl⟩
  · split <;> exact ⟨_, rfl⟩

theorem State.badFrame_shape (p : PortId) (k : ReplyKind) (n : FlagName) :
    ∃ po, s.badFrame p k n = { s with ports := po } := by
  obtain ⟨po, h⟩ := s.raiseFlag_shape p n
  unfold State.badFrame
  dsimp only
  rw [h]
  split <;> exact ⟨_, rfl⟩

/-- R176: a frame that outlasts the timeout touches the ports alone. -/
theorem State.lateFrame_shape (p : PortId) (k : ReplyKind) :
    ∃ po, s.lateFrame p k = { s with ports := po } := by
  have h : ∃ po, s.consume p k = { s with ports := po } := by
    unfold State.consume
    split <;> exact ⟨_, rfl⟩
  obtain ⟨po, h⟩ := h
  obtain ⟨po', h'⟩ := State.badFrame_shape { s with ports := po } p k .length
  exact ⟨po', by rw [State.lateFrame, h, h']⟩

/-- R119, R18: an abort leaves the close grant of another bay as it is and withdraws its own. -/
theorem State.abortClose_shape (y : Bay) :
    ∃ po, s.abortClose y = { s with
      permit.closeGrant := if s.permit.closeGrant = some y then none else s.permit.closeGrant
      ports := po } := by
  unfold State.abortClose
  split
  · exact s.withdrawClose_shape _ _
  · exact ⟨_, rfl⟩

@[simp] theorem replyIntact_iff (r : NodeReply) :
    replyIntact r = true ↔ r.check = crc16 r.body ∧ r.fits = true := by
  simp [replyIntact, and_comm]

/-- R167: a reply is good exactly where it is intact, from the node polled and of its kind. -/
theorem State.replyMiss_eq_none_iff (n : Ix16) (r : NodeReply) :
    s.replyMiss n r = none ↔ GoodReply r n ∧ nodeDataKind r.data = s.cfg.nodeKinds.get n := by
  unfold State.replyMiss GoodReply nodeAddress
  cases h : replyIntact r
  · simp [replyIntact] at h
    simp
    intro a b
    exact absurd a (h b)
  · obtain ⟨a, b⟩ := (replyIntact_iff r).1 h
    simp [a, b]

end Sys2Proof.Machine
end

