-- ==== Sys2Proof/Tests/Slice0.lean ====
section
/-!
SUPPORT. Tests of the model against the manual's own worked cases (each names its place in spec/),
smoke tests of the well-formedness checks, and for every obligation with hypotheses a named witness:
a concrete state and operands that meet them, clause by clause.
-/

/- Each `decide +kernel` waits for every proof before it: one at a time they need one thread. -/
set_option Elab.async false

namespace Sys2Proof.Machine.Tests

open Sys2Proof Sys2Proof.Machine

/-! ### Helpers -/

/-- The state after a command; the same state where there is none. -/
def after (i : Instr) (s : State) : State :=
  match exec i s with
  | .next t => t
  | .fault _ => s
  | .refused _ => s

/-- A state with a request routed on a port, ready for its owner. -/
def on (s : State) (p : PortId) (i : Instr) : State :=
  { s with ports := s.ports.set p { s.ports.get p with buffer := .processing i none } }

/-- The state after a request served on its port. -/
def serve (s : State) (p : PortId) (i : Instr) : State := after i (on s p i)

/-- The reply a request brought. -/
def replyOf (s : State) (p : PortId) (i : Instr) : Option Reply :=
  match ((serve s p i).ports.get p).buffer with
  | .processing _ r => r
  | .idle => none
  | .ready _ => none

theorem ready_on {s : State} (p : PortId) (i : Instr) (h : s.phase = .running) :
    Ready (on s p i) p i := by
  refine ⟨h, ?_⟩
  cases p <;> rfl

/-- A complete reply with a right check, of a node's address and data. -/
def replied (address : Byte) (d : NodeData) : NodeReply :=
  ⟨[address], crc16 [address], true, address, d⟩

/-- Spec file 01, section 1.10: recipe 140, with file 04's cure values and file 07's limits. -/
def recipe140 : Recipe where
  number := 140
  upper := Quad.all 1500
  mould := Quad.all 1500
  readyBand := 50
  overTemp := 1560
  cureRef := 1500
  cureTarget := 300
  minClosed := 240
  maxClosed := 600
  overstay := 60
  chargeTarget := 14200
  tolLow := 150
  tolHigh := 250
  maxPieces := 6
  minPressForce := 1500
  demouldLimit := 600
  abortLimit := 900
  ejectTimeout := 20
  lowerInterval := 40
  upperInterval := 60

/-- Recipe slot 3. -/
def slot3 : Ix16 := ⟨.n0, .n3⟩

def stampAt (t : Nat) : Timestamp := ⟨BitVec.ofNat 32 t, false⟩

def shotB : Shot :=
  { Shot.opening 10402 .b slot3 recipe140 6 2202 (stampAt 61200) with
    stage := .charged
    pieces := [⟨1, 2841, stampAt 61214⟩, ⟨2, 2903, stampAt 61226⟩, ⟨3, 2877, stampAt 61238⟩,
      ⟨4, 2790, stampAt 61250⟩, ⟨5, 2812, stampAt 61262⟩]
    chargeTotal := 14223
    chargedAt := some (stampAt 61285) }

def shotA : Shot :=
  { shotB with
    serial := 10401, bay := .a, mouldId := 2201, stage := .opened, dose := 77014
    closedDuration := 316, exceptions := [.powerLimited], openedAt := stampAt 60800
    chargedAt := some (stampAt 60900), closedAt := some (stampAt 60980)
    curedAt := some (stampAt 61280), pressOpenedAt := some (stampAt 61296) }

/-- A zone that regulates at 150.0 °C and is at temperature. -/
def warmZone : Zone :=
  { Zone.start true with
    state := .regulate, target := some 1500, effective := some 1500, latest := some 1500
    validNow := true, validCount := 9, atTemp := true }

/-- Spec file 01, section 1.10, the cell before event 9: B_IN, OPEN, shot 10,401 OPENED on bay A and
shot 10,402 CHARGED on bay B. -/
def cell : State :=
  { State.reset with
    clock := ⟨61310#32, false, false⟩
    lastHeat := ⟨.run, false⟩
    slots := ⟨some shotA, some shotB⟩
    serial := some 10403
    recipes := (Hex.all RecipeSlot.cold).set slot3 ⟨some recipe140, 6, 2⟩
    bays := ⟨⟨2201, some slot3, 100, 17, false⟩, ⟨2202, some slot3, 100, 22, false⟩⟩
    upperCount := 39
    heat := { Heat.start (Zones.all true) with zones := Zones.all warmZone, mode := .run }
    permit := { Permit.start with press := .open, position := .bIn } }

/-- The cell with a close grant outstanding (after event 9). -/
def granted : State := { cell with permit.closeGrant := some .b }

/-- The cell with a shuttle grant outstanding. -/
def moving : State := { cell with permit.shuttleGrant := some .a, permit.position := .moving }

/-- The cell with shot 10,402 CLOSED under the press. -/
def closed : State :=
  { cell with
    permit.press := .closed
    slots := ⟨some shotA, some { shotB with stage := .closed, closedAt := some (stampAt 61318) }⟩ }

/-- The cell with bay B's shot CHARGING at A_IN and a weigh of it pending. -/
def weighing : State :=
  { cell with
    permit.position := .aIn
    slots := ⟨some { shotA with stage := .closed },
      some { shotB with stage := .charging, pieces := [⟨1, 2841, stampAt 61214⟩],
                        chargeTotal := 2841, chargedAt := none }⟩
    weigh := ⟨.weigh .b, some 8, 412⟩ }

/-- The cell with EXTRACT in LOAD_AREA and shot 10,401 being ejected. -/
def ejecting : State :=
  { cell with
    permit.areas := ⟨⟨none, none⟩, ⟨some .extract, none⟩⟩
    eject := ⟨.active, some .a, some 10401, 417, .none, some 20⟩ }

/-- The cell with shot 10,401 EJECTED and EXTRACT in LOAD_AREA. -/
def ejected : State :=
  { ejecting with
    slots := ⟨some { shotA with stage := .ejected, demouldPeak := some 417 }, some shotB⟩
    eject := Eject.start }

/-- The cell with bay A empty. -/
def freeA : State :=
  { cell with
    slots := ⟨none, some shotB⟩
    recipes := (Hex.all RecipeSlot.cold).set slot3 ⟨some recipe140, 6, 1⟩ }

/-- The cell with no open shot. -/
def empty : State :=
  { cell with
    slots := ⟨none, none⟩
    recipes := (Hex.all RecipeSlot.cold).set slot3 ⟨some recipe140, 6, 0⟩ }

/-- A record on file: shot 10,400 with the given exceptions. -/
def record (n : Nat) (es : List Exc) (exported : Bool) : Record :=
  ⟨n, { shotA with serial := 10000 + n, stage := .ejected, exceptions := es }, .completed,
    verdictOf es, none, none, exported, false⟩

/-- The cell with three records on file: one taken, two pending. -/
def stored : State :=
  { cell with history :=
      ⟨[record 1 [.sticking] true, record 2 [] false, record 3 [.undercure] false], 3, 2, true⟩ }

/-- The state with every port ONLINE and its silence timer running. -/
def online (s : State) : State :=
  { s with ports := Quad.ofFn fun p =>
      { s.ports.get p with state := .online, timer := some 100, queue := [] } }

/-! ### WellFormed: an ill-formed term for each check -/

theorem test_illFormed_subscribe :
    wellFormed (.subscribe .n0 1#8 (List.replicate 9 32#8)) = false := by decide

theorem test_illFormed_portStatus :
    wellFormed (.portStatus .n0 (some (0#8, List.replicate 6 1#8))) = false := by decide

theorem test_illFormed_configSet :
    wellFormed (.configSet .n3 0x11#8 (List.replicate 60 0#8)) = false := by decide +kernel

theorem test_illFormed_unknownCode_known : wellFormed (.unknownCode .n0 0x00#8 []) = false := by
  decide

theorem test_illFormed_unknownCode_long :
    wellFormed (.unknownCode .n0 0xFF#8 (List.replicate 61 0#8)) = false := by decide +kernel

theorem test_wellFormed_unknownCode : wellFormed (.unknownCode .n0 0xFF#8 [1#8]) = true := by decide

/-! ### Frames (spec file 10) -/

/-- Spec file 10, "Worked sequence: one station's frames": 01h 00h has the check 15h. -/
theorem test_crc8_identify : crc8 [0x01#8, 0x00#8] = 0x15#8 := by decide +kernel

/-- The same place: 02h 00h has the check 2Ah. -/
theorem test_crc8_readNotice : crc8 [0x02#8, 0x00#8] = 0x2A#8 := by decide +kernel

/-- Frame 1 of that sequence, after its FRAME_START: IDENTIFY stands routed. -/
theorem test_frame_identify :
    (after (.frameEnd .n1 [0x01#8, 0x00#8, 0x15#8] 0)
      (after (.frameStart .n1) cell)).routed .n1 = some (.identify .n1) := by decide +kernel

/-- Frame 5 of that sequence: a corrupted check is answered BAD_FRAME. -/
theorem test_frame_corrupted :
    ((after (.frameEnd .n1 [0x00#8, 0x00#8, 0x01#8] 0)
      (after (.frameStart .n1) cell)).ports.get .n1).buffer = .ready ⟨.badFrame, []⟩ := by
  decide +kernel

/-- R176: a select that outlasts the frame timeout without a clock edge sets no flag and places no
reply; with an edge it is a bad frame. -/
theorem test_timeout_without_edges :
    let t := after (.frameTimeout ⟨.n1, false⟩) (after (.frameStart .n1) cell)
    let u := after (.frameTimeout ⟨.n1, true⟩) (after (.frameStart .n1) cell)
    (t.ports.get .n1).flags = ErrorFlags.clear ∧ (t.ports.get .n1).buffer = .idle
      ∧ (u.ports.get .n1).flags.length.set = true
      ∧ (u.ports.get .n1).buffer = .ready ⟨.badFrame, []⟩ := by decide +kernel

/-- Spec file 10, "Worked sequence: a queue at its limit", event 4: at 8 notices the oldest STATUS is
displaced and NOTICE_LOST set. -/
theorem test_queue_limit :
    let n := fun c : NoticeCode => (⟨⟨c, none, none, 0, 0⟩, false⟩ : Queued)
    let q := { Port.start .extract with queue := [n .shotStage, n .pressState, n .areaGranted,
      n .shuttlePosition, n .shotStage, n .shotStage, n .zoneFault, n .holdChanged] }
    (q.receive ⟨.ejectTimeout, none, none, 0, 0⟩).queue.map (·.notice.code)
        = [.pressState, .areaGranted, .shuttlePosition, .shotStage, .shotStage, .zoneFault,
            .holdChanged, .ejectTimeout]
      ∧ (q.receive ⟨.ejectTimeout, none, none, 0, 0⟩).flags.noticeLost.set = true := by
  decide +kernel

/-! ### Heat (spec file 03) -/

/-- Spec file 03, "Worked case: PI", zone U3. -/
theorem test_pi :
    piDuty ⟨2048, 64⟩ (piError 1500 1482) 150000 = 729
      ∧ ({ warmZone with latest := some 1482, integrator := 150000 }.piStage ⟨2048, 64⟩ 4200
          false).integrator = 151152 := by decide

/-- The same case, zone A3 in period 4: a budget-limited zone's integrator is held. -/
theorem test_pi_limited :
    ({ warmZone with latest := some 1490, integrator := 123168, limited := true }.piStage
        ⟨1536, 48⟩ 4200 false).integrator = 123168
      ∧ ({ warmZone with latest := some 1490, integrator := 123168, limited := true }.piStage
        ⟨1536, 48⟩ 4200 false).requested = 541 := by decide

/-- Spec file 03, "Worked case: ramp", periods 1, 2 and 12. -/
theorem test_ramp :
    rampStep 50 0 1200 1210 = (1200, 50) ∧ rampStep 50 50 1200 1210 = (1201, 40)
      ∧ rampStep 50 10 1209 1210 = (1210, 0) := by decide

def workedLoads1 : List Load :=
  [⟨⟨.bayA, .n3⟩, 3000, 550⟩, ⟨⟨.bayA, .n2⟩, 3000, 600⟩, ⟨⟨.bayA, .n1⟩, 3000, 450⟩,
   ⟨⟨.bayA, .n0⟩, 3000, 500⟩, ⟨⟨.upper, .n3⟩, 6000, 700⟩, ⟨⟨.upper, .n2⟩, 6000, 900⟩,
   ⟨⟨.upper, .n1⟩, 6000, 760⟩, ⟨⟨.upper, .n0⟩, 6000, 820⟩]

def workedLoads2 : List Load :=
  [⟨⟨.bayB, .n3⟩, 3000, 950⟩, ⟨⟨.bayB, .n2⟩, 3000, 900⟩, ⟨⟨.bayB, .n1⟩, 3000, 1000⟩,
   ⟨⟨.bayB, .n0⟩, 3000, 1000⟩]

/-- Spec file 03, "Worked case: budget", 36,000 W: class 2 is scaled. -/
theorem test_budget_class2 :
    (arbitrate 36000 false workedLoads1 workedLoads2).map Load.duty
        = [550, 600, 450, 500, 700, 900, 760, 820, 873, 827, 919, 919]
      ∧ totalWatts (arbitrate 36000 false workedLoads1 workedLoads2) = 35994 := by decide +kernel

/-- The same case, 20,000 W: class 1 is scaled and class 2 granted nothing. -/
theorem test_budget_class1 :
    (arbitrate 20000 false workedLoads1 workedLoads2).map Load.duty
        = [433, 472, 354, 394, 551, 709, 598, 646, 0, 0, 0, 0]
      ∧ totalWatts (arbitrate 20000 false workedLoads1 workedLoads2) = 19983 := by decide +kernel

/-- Spec file 03, "Worked case: fault and recovery", periods 4 and 12: the third invalid sample faults
a zone, the eighth valid one recovers it. -/
theorem test_fault_and_recovery :
    ({ warmZone with invalidCount := 2 }.takeUp none).1.state = .fault
      ∧ ({ warmZone with state := .fault, validCount := 7 }.takeUp (some 1453)).1.state = .ramp := by
  decide

/-! ### Cure (spec file 04) -/

/-- Spec file 04, "Worked case: one step" and "a run of steps": the rate factors. -/
theorem test_rateFactor :
    rateFactor defaultRateTable (-13) = 237 ∧ rateFactor defaultRateTable (-7) = 246
      ∧ rateFactor defaultRateTable 0 = 256 ∧ rateFactor defaultRateTable 12 = 281
      ∧ rateFactor defaultRateTable 36 = 332 := by decide

/-- Spec file 04, "Worked case: one step": the temperatures of the eight zones. -/
theorem test_cure_step :
    (shotB.measure recipe140 defaultRateTable
        [1523, 1518, 1530, 1526, 1494, 1502, 1487, 1509]).dose = 237
      ∧ (shotB.measure recipe140 defaultRateTable
        [1523, 1518, 1530, 1526, 1494, 1502, 1487, 1509]).maxZoneTemp = some 1530 := by decide

/-! ### Weighing (spec file 05) -/

/-- Spec file 05, "Worked case: one piece from arrival to list": arrivals 1 to 8 of channel W. -/
def arrivals8 : List LoadSample :=
  [⟨282540#24, false⟩, ⟨282600#24, false⟩, ⟨282630#24, false⟩, ⟨282610#24, false⟩,
   ⟨282625#24, false⟩, ⟨282620#24, false⟩, ⟨282605#24, false⟩, ⟨282628#24, false⟩]

/-- The weigh of that case before arrival 9, the scale's node being polled. -/
def scale : State :=
  { weighing with
    cfg := { Cfg.defaults with channels := ⟨⟨120000, 1311, 8⟩, ⟨4100, 20480, 1⟩, defaultCal .fb⟩ }
    channels.w := ⟨arrivals8, 8⟩
    sensor.polling := some ⟨.n0, .n3⟩ }

/-- Arrivals 1 to 8 are not stable; arrival 9 captures 2841 g. -/
theorem test_weigh_capture :
    isStable 8 40 arrivals8 = false
      ∧ ((after (.pollReply (replied 4#8 (.load ⟨282618#24, false⟩))) scale).slots.get .b).map
          (fun sh => (sh.pieces.length, sh.chargeTotal)) = some (2, 5682)
      ∧ (after (.pollReply (replied 4#8 (.load ⟨282618#24, false⟩))) scale).weigh
          = ⟨.none, none, 412⟩ := by decide +kernel

/-- R167: a reply whose check is not the CRC-16 of its bytes is a miss with reason CHECK, and one of a
length that does not fit as well. -/
theorem test_reply_check :
    let miss := fun r : NodeReply =>
      ((after (.pollReply r) scale).sensor.nodes.get ⟨.n0, .n3⟩).lastMiss
    miss ⟨[4#8], crc16 [4#8] + 1#16, true, 4#8, .load ⟨0#24, false⟩⟩ = some .check
      ∧ miss ⟨[4#8], crc16 [4#8], false, 4#8, .load ⟨0#24, false⟩⟩ = some .check
      ∧ miss (replied 5#8 (.load ⟨0#24, false⟩)) = some .wrongNode := by decide +kernel

/-- Spec file 05, "Worked case: force conversion". -/
theorem test_force_conversion :
    (⟨4100, 20480, 1⟩ : ChannelCal).convert 5380 = 400
      ∧ (⟨4100, 20480, 1⟩ : ChannelCal).convert 5381 = 400
      ∧ (⟨4100, 20480, 1⟩ : ChannelCal).convert 4050 = -16 := by decide

/-- Spec file 05, "Worked case: building a charge", events 8 and 11: 14,483 g is OVER the window, and
14,223 g within it. -/
theorem test_chargeDone :
    replyOf { weighing with
        weigh := Weigh.start
        slots.b := some { shotB with stage := .charging, chargeTotal := 14483 } }
      .n1 (.chargeDone .n1 2#8) = some ⟨.over, [.num 14483, .num 14050, .num 14450, .num 5]⟩
    ∧ (serve { weighing with
        weigh := Weigh.start, slots.b := some { shotB with stage := .charging } }
      .n1 (.chargeDone .n1 2#8)).shotStage .b = some .charged := by decide +kernel

/-! ### The trace of spec file 01, section 1.10 -/

/-- Event 9: the close is granted for bay B. -/
theorem test_trace_close :
    replyOf cell .n0 (.closeRequest .n0) = some ⟨.granted, [.bay .b, .num 10402]⟩
      ∧ (serve cell .n0 (.closeRequest .n0)).closeOk = true := by decide +kernel

/-- Event 11: EJECT BEGIN asserts EJECT_OK. -/
theorem test_trace_ejectBegin :
    (serve { ejecting with eject := Eject.start } .n2 (.ejectBegin .n2 1#8)).ejectOk = true := by
  decide +kernel

/-- Event 12: the CLOSED report with its force. -/
theorem test_trace_closed :
    let t := serve granted .n0 (.reportPress .n0 3#8 (some 1840#16))
    t.closeOk = false ∧ t.shotStage .b = some .closed
      ∧ (t.slots.get .b).map (fun sh => (sh.pressPeak, sh.exceptions)) = some (some 1840, []) := by
  decide +kernel

/-- Event 13: EJECT END gives the shot its peak of 417 without STICKING. -/
theorem test_trace_ejectEnd :
    let t := serve ejecting .n2 (.ejectEnd .n2 1#8)
    t.shotStage .a = some .ejected
      ∧ (t.slots.get .a).map (fun sh => (sh.demouldPeak, sh.exceptions))
          = some (some 417, [.powerLimited]) := by decide +kernel

/-- Event 14: PART TAKEN files the shot with verdict ACCEPT; the counts become 18 and 40. -/
theorem test_trace_partTaken :
    let t := serve ejected .n2 (.partTaken .n2 1#8 1#8)
    t.slots.get .a = none ∧ (t.bays.get .a).lowerCount = 18 ∧ t.upperCount = 40
      ∧ (t.recipes.get slot3).inUse = 1
      ∧ t.history.slots.map (fun r => (r.shot.serial, r.verdict)) = [(10401, .accept)] := by
  decide +kernel

/-- Event 16: CHARGE BEGIN opens shot 10,403 on bay A. -/
theorem test_trace_chargeBegin :
    let t := serve freeA .n1 (.chargeBegin .n1 1#8)
    t.serial = some 10404 ∧ t.shotStage .a = some .charging ∧ (t.recipes.get slot3).inUse = 2 := by
  decide +kernel

/-- "The same trace with an abort": the grant is withdrawn, the shot filed with {ABORTED}. -/
theorem test_trace_abort :
    let t := serve granted .n3 (.shotAbort .n3 2#8)
    t.closeOk = false ∧ t.slots.get .b = none ∧ t.upperCount = 39
      ∧ t.history.slots.map (fun r => (r.shot.exceptions, r.verdict, r.outcome))
          = [([.aborted], .reject, .aborted)] := by decide +kernel

/-- R119: the abort of the grant's shot gives cause 4; where the same event completes a park in RUN, the
first row that applies gives cause 3. -/
theorem test_abort_causes :
    let cause := fun s : State => ((serve (online s) .n3 (.shotAbort .n3 2#8)).ports.get .n0).queue.map
      fun x => if x.notice.code = .closeRevoked then x.notice.v1 else 0
    (4 : Int) ∈ cause granted
      ∧ (3 : Int) ∈ cause
          { granted with slots.a := none, heat.parkPending := true, lastHeat.park := true } := by
  decide +kernel

/-- Spec file 07, "Worked case: a sticking part", event 7. -/
theorem test_sticking :
    let t := serve { ejecting with eject.peak := 655 } .n2 (.ejectEnd .n2 1#8)
    (t.bays.get .a).mouldCheck = true ∧ t.permit.selfHolds.mouldCheck.get .a = true
      ∧ (t.slots.get .a).map (·.exceptions) = some [.powerLimited, .sticking] := by decide +kernel

/-- Spec file 11, R193: the end of a cold start with an image that has no entries is State.reset. The
image's check is that of an empty entry area, FFFFh. -/
theorem test_reset_is_coldStart :
    after (.configLoadEnd [0x52#8, 0xB4#8, 1#8, 0#8, 0#8, 0#8, 0xFF#8, 0xFF#8])
      { State.reset with
        phase := .starting .cold
        ports := Quad.ofFn fun p => Port.start (State.reset.roleOf p) } = State.reset := by
  decide +kernel

/-! ### Witnesses: the machine, ports and frames -/

/-- A cell with a command waiting. -/
def waiting (s : State) (c : Instr) : State := { s with pending := [c] }

theorem step_waiting (s : State) (c : Instr) :
    ∃ t, step (waiting s c) = .next t := by
  cases c <;> exact ⟨_, rfl⟩

theorem witness_StepRunsTheFrontCommand :
    (waiting cell .heatPeriod).pending = .heatPeriod :: [] ∧ cell.pending = [] := by decide +kernel

theorem witness_NoBlockActsUntilTheStartEnds :
    ({ cell with phase := .stopped } : State).phase ≠ .running
      ∧ requestOf (.nop .n0) = some (.n0, .nop, [])
      ∧ ({ cell with phase := .starting .cold } : State).phase ≠ .running := by decide +kernel

/-- A port whose owner's result is on its way back. -/
def answered : State := cell.answer .n0 (.nop .n0) ⟨.ok, []⟩

theorem witness_ResultsReachTheReplyBuffer :
    answered.phase = .running
      ∧ (answered.ports.get .n0).buffer = .processing (.nop .n0) (some ⟨.ok, []⟩) := by
  decide +kernel

/-- A queued notice of a code. -/
def note (c : NoticeCode) : Queued := ⟨⟨c, none, none, 0, 0⟩, false⟩

/-- A port with a queue. -/
def queued (q : List Queued) : Port := { Port.start .press with queue := q }

theorem rolesLaw_cell : RolesLaw cell := by
  intro p q h
  cases p <;> cases q <;> first | rfl | cases h

theorem witness_NoticesReachTheirQueues :
    RolesLaw cell ∧ (queued []).queue.length < 8
      ∧ ((queued (note .powerWarn :: note .started :: List.replicate 6 (note .cured))).queue
          = [note .powerWarn] ++ note .started :: List.replicate 6 (note .cured)
        ∧ (note .started).notice.code.cls = .status
        ∧ ∀ y ∈ [note .powerWarn], y.notice.code.cls ≠ .status)
      ∧ (queued (List.replicate 8 (note .cured))).queue.length = 8
      ∧ ∀ y ∈ (queued (List.replicate 8 (note .cured))).queue, y.notice.code.cls ≠ .status := by
  refine ⟨rolesLaw_cell, ?_⟩
  decide +kernel

theorem witness_FrameStartsWithTheStatusByte :
    ((cell.ports.get .n0).frame = none ∧ cell.phase = .running)
      ∧ (({ cell with phase := .starting .cold } : State).ports.get .n0).frame = none
      ∧ ({ cell with phase := .starting .cold } : State).phase = .starting .cold := by
  decide +kernel

/-- A frame in progress on port 0, begun with the given reply kind. -/
def framed (k : ReplyKind) : State := cell.setFrame .n0 (some ⟨k, [0x00#8], false, true⟩)

/-- A frame in progress on the PRESS port, which is LOST with its hold. -/
def silent : State :=
  { (framed .idle).setPort .n0 { (framed .idle).ports.get .n0 with state := .lost } with
    permit.selfHolds.pressSilent := true }

/-- R130, R177, R187: a valid frame answered SHORT_WAIT brings the PRESS port back and ends its hold;
the request in its buffer stays. HOLD_CHANGED follows the two start notices. -/
theorem test_short_wait_frame :
    let s := on { silent with
      ports := silent.ports.set .n0 { silent.ports.get .n0 with
        frame := some ⟨.shortWait, [0x00#8], false, true⟩ } } .n0 (.nop .n0)
    let t := after (.frameEnd .n0 (frameOf 0x01#8 []) 0) s
    (t.ports.get .n0).state = .online ∧ (t.ports.get .n0).buffer = .processing (.nop .n0) none
      ∧ t.permit.selfHolds.pressSilent = false
      ∧ ((t.ports.get .n0).queue.drop 2).map (·.notice) = [⟨.holdChanged, none, none, 2, 0⟩] := by
  decide +kernel

theorem witness_ValidFrameRoutesItsRequest :
    (framed .idle).phase = .running
      ∧ ((framed .idle).ports.get .n0).frame = some ⟨.idle, [0x00#8], false, true⟩
      ∧ requestOf (.holdAdd .n0 1#8 15#8) = some (.n0, .holdAdd, [1#8, 15#8])
      ∧ wellFormed (.holdAdd .n0 1#8 15#8) = true
      ∧ (framed .idle).roleOf .n0 ∈ ReqKind.holdAdd.roles
      ∧ (frameOf ReqKind.holdAdd.code [1#8, 15#8] ++ List.replicate 59 0#8).length ≤ 64
      ∧ (silent.phase = .running ∧ (silent.ports.get .n0).state = .lost
        ∧ silent.roleOf .n0 = .press ∧ silent.permit.selfHolds.pressSilent = true) := by
  decide +kernel

theorem witness_ValidFrameRefusals :
    (framed .ready).phase = .running
      ∧ ((framed .ready).ports.get .n0).frame = some ⟨.ready, [0x00#8], false, true⟩
      ∧ (frameOf 0xFF#8 (List.replicate 60 0#8) ++ [0#8]).length ≤ 64
      ∧ ReqKind.ofCode 0xFF#8 = none
      ∧ (ReqKind.ofCode 0x40#8 = some .chargeBegin
        ∧ (framed .ready).roleOf .n0 ∉ ReqKind.chargeBegin.roles)
      ∧ ReqKind.ofCode 0x00#8 = some .nop ∧ (framed .ready).roleOf .n0 ∈ ReqKind.nop.roles
      ∧ lengthFits .nop 1 = false
      ∧ ((framed .shortWait).phase = .running ∧ ((framed .shortWait).ports.get .n0).frame
          = some ⟨.shortWait, [0x00#8], false, true⟩) := by decide +kernel

theorem witness_BadFramesAreDiscarded :
    (framed .shortWait).phase = .running
      ∧ ((framed .shortWait).ports.get .n0).frame = some ⟨.shortWait, [0x00#8], false, true⟩
      ∧ [0x00#8, 0x00#8].length < 3
      ∧ 64 < (List.replicate 65 0#8).length
      ∧ 60 < (61#8 : Byte).toNat
      ∧ [0x00#8, 0x01#8, 0x00#8].length < 3 + (0x01#8 : Byte).toNat
      ∧ 0x01#8 ≠ crc8 (0x00#8 :: BitVec.ofNat 8 ([] : List Byte).length :: [])
      ∧ (let s := cell.setFrame .n0 (some ⟨.ready, [], true, true⟩)
         s.phase = .running ∧ (s.ports.get .n0).frame = some ⟨.ready, [], true, true⟩
           ∧ [0x00#8] ≠ [])
      ∧ ((cell.ports.get .n0).flags.check.set = false
        ∧ (((cell.raiseFlag .n0 .check).ports.get .n0).flags.get .check).set = true
        ∧ FlagName.check ≠ .noticeLost) := by
  decide +kernel

theorem witness_RequestRoundTrip :
    requestOf (.subscribe .n0 1#8 (List.replicate 8 39#8))
        = some (.n0, .subscribe, 1#8 :: List.replicate 8 39#8)
      ∧ wellFormed (.subscribe .n0 1#8 (List.replicate 8 39#8)) = true
      ∧ (frameOf ReqKind.subscribe.code (1#8 :: List.replicate 8 39#8)
          ++ List.replicate 52 0#8).length ≤ 64
      ∧ ReqKind.parse .n0 .configSet (List.replicate 60 0#8)
          = some (.configSet .n0 0#8 (List.replicate 59 0#8)) := by decide +kernel

theorem witness_ReadsReportAndChangeNothing :
    Ready (on cell .n0 (.readZone .n0 12#8)) .n0 (.readZone .n0 12#8)
      ∧ (Ready (on empty .n0 (.readShot .n0 2#8 2#8)) .n0 (.readShot .n0 2#8 2#8)
        ∧ bayOf 2#8 = some .b
        ∧ (on empty .n0 (.readShot .n0 2#8 2#8)).slots.get .b = none)
      ∧ (Ready (on cell .n0 (.readShot .n0 3#8 3#8)) .n0 (.readShot .n0 3#8 3#8)
        ∧ bayOf 3#8 = none ∧ 2 < (3#8 : Byte).toNat)
      ∧ (Ready (on cell .n3 (.historyNext .n3 4#8)) .n3 (.historyNext .n3 4#8)
        ∧ (on cell .n3 (.historyNext .n3 4#8)).history.head = none)
      ∧ (Ready (on stored .n3 (.historyNext .n3 0#8)) .n3 (.historyNext .n3 0#8)
        ∧ (on stored .n3 (.historyNext .n3 0#8)).history.head = some (1, record 2 [] false))
      ∧ (Ready (on stored .n3 (.historyFind .n3 1#32 4#8)) .n3 (.historyFind .n3 1#32 4#8)
        ∧ ∀ r ∈ stored.history.slots, r.shot.serial ≠ (1#32 : BitVec 32).toNat)
      ∧ Ready (on cell .n0 (.readNode .n0 17#8)) .n0 (.readNode .n0 17#8) := by
  unfold Ready
  decide +kernel

theorem witness_ReadsReportAndChangeNothing_contents :
    (Ready (on cell .n0 (.readShot .n0 1#8 2#8)) .n0 (.readShot .n0 1#8 2#8)
        ∧ bayOf 1#8 = some .a ∧ cell.slots.get .a = some shotA)
      ∧ (Ready (on stored .n3 (.historyFind .n3 10003#32 4#8)) .n3 (.historyFind .n3 10003#32 4#8)
        ∧ stored.history.slots[2]? = some (record 3 [.undercure] false)
        ∧ (record 3 [.undercure] false).shot.serial = (10003#32 : BitVec 32).toNat
        ∧ ∀ x ∈ stored.history.slots.take 2, x.shot.serial ≠ (10003#32 : BitVec 32).toNat)
      ∧ (Ready (on cell .n3 (.historyFind .n3 1#32 5#8)) .n3 (.historyFind .n3 1#32 5#8)
        ∧ Ready (on cell .n3 (.historyNext .n3 5#8)) .n3 (.historyNext .n3 5#8)
        ∧ 4 < (5#8 : Byte).toNat)
      ∧ (Ready (on cell .n1 (.readBay .n1 2#8)) .n1 (.readBay .n1 2#8) ∧ bayOf 2#8 = some .b
        ∧ Ready (on cell .n1 (.readBay .n1 3#8)) .n1 (.readBay .n1 3#8) ∧ bayOf 3#8 = none)
      ∧ Ready (on cell .n2 (.readCell .n2)) .n2 (.readCell .n2)
      ∧ (Ready (on cell .n2 (.readZone .n2 11#8)) .n2 (.readZone .n2 11#8)
        ∧ ZoneId.number ⟨.bayB, .n3⟩ = (11#8 : Byte).toNat ∧ 11 < (12#8 : Byte).toNat)
      ∧ (Ready (on cell .n0 (.recipeRead .n0 3#8)) .n0 (.recipeRead .n0 3#8)
        ∧ slot3.toNat = (3#8 : Byte).toNat ∧ (cell.recipes.get slot3).recipe = some recipe140)
      ∧ (Ready (on cell .n0 (.recipeRead .n0 15#8)) .n0 (.recipeRead .n0 15#8)
        ∧ Ix16.toNat ⟨.n3, .n3⟩ = (15#8 : Byte).toNat
        ∧ (cell.recipes.get ⟨.n3, .n3⟩).recipe = none)
      ∧ (Ready (on cell .n0 (.recipeRead .n0 16#8)) .n0 (.recipeRead .n0 16#8)
        ∧ 15 < (16#8 : Byte).toNat)
      ∧ (Ready (on cell .n0 (.readNode .n0 1#8)) .n0 (.readNode .n0 1#8)
        ∧ Ix16.toNat ⟨.n0, .n0⟩ + 1 = (1#8 : Byte).toNat)
      ∧ (Ready (on cell .n0 (.readNode .n0 16#8)) .n0 (.readNode .n0 16#8)
        ∧ Ix16.toNat ⟨.n3, .n3⟩ + 1 = (16#8 : Byte).toNat) := by
  unfold Ready
  decide +kernel

/-- The cell with three notices on port 0. -/
def noticed : State :=
  cell.setPort .n0 (queued [note .started, note .powerWarn, note .retainLost])

theorem witness_NoticesAreReadByClassAndRaiseAttention :
    (Ready (on (online cell) .n0 (.readNotice .n0)) .n0 (.readNotice .n0)
        ∧ ((on (online cell) .n0 (.readNotice .n0)).ports.get .n0).queue = [])
      ∧ (Ready (on noticed .n0 (.readNotice .n0)) .n0 (.readNotice .n0)
        ∧ ((on noticed .n0 (.readNotice .n0)).ports.get .n0).queue
            = [note .started] ++ note .powerWarn :: [note .retainLost]
        ∧ (∀ y ∈ [note .started] ++ [note .retainLost],
            (note .powerWarn).notice.code.cls.code ≤ y.notice.code.cls.code)
        ∧ ∀ y ∈ [note .started], y.notice.code.cls ≠ (note .powerWarn).notice.code.cls)
      ∧ (noticed.phase = .running
        ∧ (noticed.ports.get .n0).queue = note .started :: [note .powerWarn, note .retainLost]
        ∧ (note .started).aged = false) := by
  unfold Ready
  decide +kernel

theorem witness_SubscribeReplacesTheSet :
    (Ready (on cell .n0 (.subscribe .n0 8#8 [32#8, 39#8, 32#8])) .n0
          (.subscribe .n0 8#8 [32#8, 39#8, 32#8])
        ∧ (8#8 : Byte).toNat ∈ [1, 2, 4, 8]
        ∧ ∀ c ∈ [32#8, 39#8, (32#8 : Byte)], 32 ≤ c.toNat ∧ c.toNat ≤ 39)
      ∧ (Ready (on cell .n0 (.subscribe .n0 1#8 [31#8, 40#8])) .n0 (.subscribe .n0 1#8 [31#8, 40#8])
        ∧ (31#8 : Byte).toNat < 32 ∧ 39 < (40#8 : Byte).toNat) := by
  unfold Ready
  decide +kernel

theorem witness_PortStatusReportsThenClears :
    Ready (on cell .n0 (.portStatus .n0 none)) .n0 (.portStatus .n0 none)
      ∧ (Ready (on cell .n3 (.portStatus .n3 (some (0#8, [1#8, 5#8])))) .n3
            (.portStatus .n3 (some (0#8, [1#8, 5#8])))
        ∧ Ix4.ofNat? (0#8 : Byte).toNat = some .n0
        ∧ [1#8, 5#8].map FlagName.ofCode = [FlagName.check, .noticeLost].map some
        ∧ cell.roleOf .n3 = .line)
      ∧ (Ready (on cell .n0 (.portStatus .n0 (some (3#8, [])))) .n0
            (.portStatus .n0 (some (3#8, [])))
        ∧ Ix4.ofNat? (3#8 : Byte).toNat = some .n3 ∧ Ix4.n3 ≠ Ix4.n0 ∧ cell.roleOf .n0 ≠ .line)
      ∧ (Ready (on cell .n0 (.portStatus .n0 (some (4#8, [6#8])))) .n0
            (.portStatus .n0 (some (4#8, [6#8])))
        ∧ 3 < (4#8 : Byte).toNat ∧ 5 < (6#8 : Byte).toNat) := by
  unfold Ready
  decide +kernel

theorem witness_PortLawIsKept :
    PortLaw (waiting cell .heatPeriod) ∧ ∃ t, step (waiting cell .heatPeriod) = .next t := by
  refine ⟨?_, step_waiting _ _⟩
  intro p
  cases p <;> refine ⟨by decide +kernel, by decide +kernel, ?_⟩ <;>
    exact List.isSublist_iff_sublist.mp (by decide +kernel)

/-! ### Witnesses: supplies and starts -/

/-- The cell within a start of a kind. -/
def starting (k : StartKind) : State := { cell with phase := .starting k }

theorem witness_ColdStartBeginsFromNothing :
    (starting .cold).phase = .starting .cold
      ∧ (List.replicate 7 0x52#8).length < 8
      ∧ (0x52#8 ≠ 0xB4#8 ∧ 4088 < 256 * (0x0F#8 : Byte).toNat + (0xF9#8 : Byte).toNat)
      ∧ (let area := [0x16#8, 1#8, 5#8, 0x16#8, 1#8, 6#8, 0x17#8, 2#8, 0#8]
         ([(0x16#8, [5#8]), (0x16#8, [6#8])].flatMap
             (fun e : Byte × List Byte => e.1 :: BitVec.ofNat 8 e.2.length :: e.2))
             ++ [0x17#8, 2#8, 0#8] = area
           ∧ [0#8].length < (2#8 : Byte).toNat ∧ area.length ≤ 4088
           ∧ 256 * (0#8 : Byte).toNat + (9#8 : Byte).toNat = area.length
           ∧ 256 * ((crc16 area).toNat / 256) + (crc16 area).toNat % 256 = (crc16 area).toNat)
      ∧ ((0x99, 4) ∉ [(0x01, 4), (0x44, 4)] ∧ [1#8, 2#8, 3#8, 4#8].length = 4
        ∧ ∀ p, ([1#8, 2#8, 3#8, 4#8].getD (Ix4.toNat p) 0#8).toNat
            = roleCode (defaultRoles.get p)) := by
  refine ⟨rfl, by decide, by decide, by decide +kernel, by decide, by decide, ?_⟩
  intro p
  cases p <;> rfl

/-- R194: of two entries with one tag the first is taken, and an entry whose length runs past the end
of the area ends the reading. -/
theorem test_image_entries :
    let area := [0x16#8, 1#8, 5#8, 0x16#8, 1#8, 6#8, 0x17#8, 2#8, 0#8]
    let c := loadImage ([0x52#8, 0xB4#8, 1#8, 0#8, 0#8, 9#8]
      ++ [BitVec.ofNat 8 ((crc16 area).toNat / 256), BitVec.ofNat 8 (crc16 area).toNat] ++ area)
    c = { Cfg.defaults with idleLimit := 5 } := by decide +kernel

theorem storeLaw_stored : StoreLaw stored := by
  refine ⟨?_, ?_, ?_, ?_, ?_⟩ <;> decide +kernel

theorem witness_WarmStartFilesOpenShots :
    (starting .mainLoss).phase = .starting .mainLoss ∧ StartKind.mainLoss ≠ .cold
      ∧ StoreLaw (starting .mainLoss) := by
  refine ⟨rfl, by decide, ?_, ?_, ?_, ?_, ?_⟩ <;> decide +kernel

theorem witness_StartBeginsAtItsEvent :
    (({ cell with pins.main := false } : State).pins.main = false
        ∧ ({ cell with pins.main := false } : State).pins.reset = false)
      ∧ (({ cell with pins.reset := true } : State).pins.main = true
        ∧ ({ cell with pins.reset := true } : State).pins.reset = true)
      ∧ Ready (on cell .n3 (.restart .n3)) .n3 (.restart .n3) := by
  unfold Ready
  decide +kernel

theorem witness_CellTimeCountsAndIsSet :
    (cell.pins.clk32 = true ∨ cell.pins.main = true)
      ∧ (({ cell with pins := ⟨false, false, false, false⟩ } : State).pins.clk32 = false
        ∧ ({ cell with pins := ⟨false, false, false, false⟩ } : State).pins.main = false)
      ∧ Ready (on cell .n3 (.clockSet .n3 0#32)) .n3 (.clockSet .n3 0#32) := by
  unfold Ready
  decide +kernel

/-- The cell in WARNING with its hold. -/
def warned : State := { cell with supply := .warning, permit.selfHolds.powerWarn := true }

theorem noHolder (s : State) (h : s.permit.areas = ⟨⟨none, none⟩, ⟨none, none⟩⟩) :
    ∀ r, (s.permit.areas.get r).holder = none := by
  intro r
  rw [h]
  cases r <;> rfl

theorem shuttleLaw_of_none (s : State) (h : s.permit.shuttleGrant = none) : ShuttleLaw s := by
  intro hs
  rw [h] at hs
  cases hs

theorem shuttleLaw_moving : ShuttleLaw moving :=
  fun _ => ⟨rfl, noHolder _ rfl, by decide +kernel, rfl⟩

/-- R115, R191: PFWARN under a shuttle grant to A_IN, as PRESS receives it after the two start
notices. -/
theorem test_pfwarn_notices :
    (((after .pfwarnAsserted moving).ports.get .n0).queue.drop 2).map (·.notice)
      = [⟨.holdChanged, none, none, 1, 1⟩, ⟨.shuttleRevoked, none, none, 1, 1⟩,
         ⟨.powerWarn, none, none, 1, 0⟩] := by decide +kernel

theorem witness_SupplyWarningHoldsTheCell :
    ShuttleLaw moving ∧ (moving.phase = .running ∧ moving.supply = .normal)
      ∧ ((online cell).ports.get .n0).queue.length ≤ 3
      ∧ (warned.phase = .running ∧ warned.supply = .warning
        ∧ warned.permit.selfHolds.powerWarn = true) :=
  ⟨shuttleLaw_moving, by decide +kernel⟩

/-- A CONFIG SET of LINE in the cell, its data in their length and range for its tag. -/
def setting (tag : Byte) (d : List Byte) : Prop :=
  Ready (on cell .n3 (.configSet .n3 tag d)) .n3 (.configSet .n3 tag d) ∧ cell.cfg.locked = false
    ∧ (tag.toNat, d.length) ∈ [(0x02, 8), (0x04, 1), (0x11, 4), (0x12, 8), (0x13, 2),
        (0x14, 4), (0x16, 1), (0x41, 6), (0x42, 1)]
    ∧ (tag = 0x04#8 → ∀ x ∈ d, x.toNat ≤ 1)

theorem witness_ConfigSetStoresClampedValues :
    (Ready (on cell .n3 (.configSet .n3 0x04#8 [2#8])) .n3 (.configSet .n3 0x04#8 [2#8])
        ∧ 1 < (2#8 : Byte).toNat)
      ∧ (Ready (on cell .n3 (.configSet .n3 0x01#8 [])) .n3 (.configSet .n3 0x01#8 []))
      ∧ (Ready (on { cell with cfg.locked := true } .n3 (.configSet .n3 0x11#8 [0#8, 3#8, 0#8, 0#8]))
          .n3 (.configSet .n3 0x11#8 [0#8, 3#8, 0#8, 0#8]))
      ∧ setting 0x02#8 [0#8, 0#8, 0#8, 99#8, 0xEA#8, 0x61#8, 0#8, 0#8] ∧ setting 0x04#8 [1#8]
      ∧ setting 0x11#8 [0#8, 3#8, 0x0D#8, 0x41#8] ∧ setting 0x12#8 (List.replicate 8 0xFF#8)
      ∧ setting 0x13#8 [3#8, 0xE9#8] ∧ setting 0x14#8 [0x80#8, 0#8, 0x0F#8, 0xA1#8]
      ∧ setting 0x14#8 [3#8, 0xE8#8, 3#8, 0xE8#8] ∧ setting 0x16#8 [241#8]
      ∧ setting 0x16#8 [30#8] ∧ setting 0x41#8 (List.replicate 6 0#8) ∧ setting 0x42#8 [0#8] := by
  unfold setting Ready
  refine ⟨?_, ?_, ?_, ?_, ?_, ?_, ?_, ?_, ?_, ?_, ?_, ?_, ?_⟩ <;> decide +kernel

/-- R187: the silence limits set at run time restart the timer of an ONLINE port whose limit changes,
and a limit of 99 is stored as 100. -/
theorem test_silence_limits :
    let t := serve (online cell) .n3
      (.configSet .n3 0x02#8 [7#8, 0xD0#8, 0#8, 99#8, 0#8, 0#8, 0#8, 0#8])
    t.cfg.silence = ⟨2000, 100, 0, 0⟩
      ∧ (t.ports.get .n0).timer = some 100 ∧ (t.ports.get .n1).timer = some 100
      ∧ (t.ports.get .n2).timer = none := by decide +kernel

theorem witness_LostPortsAreAlarmed :
    ((online cell).phase = .running ∧ (online cell).roleOf .n3 = .line
        ∧ ((online cell).ports.get .n3).state = .online
        ∧ ((online cell).ports.get .n3).timer.isSome = true)
      ∧ ((online weighing).roleOf .n1 = AreaUser.loader.role
        ∧ ((online weighing).ports.get .n1).state = .online
        ∧ ((online weighing).ports.get .n1).timer.isSome = true
        ∧ (online weighing).weigh.slot = .weigh .b)
      ∧ ((online ejecting).roleOf .n2 = AreaUser.extract.role
        ∧ ((online ejecting).ports.get .n2).state = .online
        ∧ ((online ejecting).ports.get .n2).timer.isSome = true
        ∧ (online ejecting).eject.state ≠ .idle ∧ (online ejecting).eject.bay = some .a
        ∧ (online ejecting).slots.get .a = some shotA) := by decide +kernel

theorem witness_LostPressEndsTheGrants :
    (online closed).phase = .running ∧ (online closed).roleOf .n0 = .press
      ∧ ((online closed).ports.get .n0).state = .online
      ∧ ((online closed).ports.get .n0).timer.isSome = true
      ∧ (online ejecting).permit.areas.load.holder = some .extract := by decide +kernel

/-! ### Witnesses: the permit block -/

/-- The cell with twelve station holds. -/
def heldFull : State :=
  { cell with permit.stationHolds :=
      (List.range 12).map fun n => ⟨.station .line, .bay .a, n + 1⟩ }

theorem witness_HoldAddPlacesAnEntry :
    (Ready (on cell .n0 (.holdAdd .n0 4#8 16#8)) .n0 (.holdAdd .n0 4#8 16#8)
        ∧ scopeOf 4#8 = none ∧ 15 < (16#8 : Byte).toNat)
      ∧ (Ready (on heldFull .n3 (.holdAdd .n3 2#8 12#8)) .n3 (.holdAdd .n3 2#8 12#8)
        ∧ scopeOf 2#8 = some (.bay .a)
        ∧ ⟨.station .line, .bay .a, 12⟩ ∈ heldFull.permit.stationHolds)
      ∧ (Ready (on heldFull .n3 (.holdAdd .n3 2#8 13#8)) .n3 (.holdAdd .n3 2#8 13#8)
        ∧ ⟨.station .line, .bay .a, 13⟩ ∉ heldFull.permit.stationHolds
        ∧ 12 ≤ heldFull.permit.stationHolds.length)
      ∧ (Ready (on granted .n0 (.holdAdd .n0 3#8 1#8)) .n0 (.holdAdd .n0 3#8 1#8)
        ∧ scopeOf 3#8 = some (.bay .b) ∧ granted.permit.closeGrant = some .b
        ∧ ⟨.station .press, .bay .b, 1⟩ ∉ granted.permit.stationHolds)
      ∧ (Ready (on cell .n0 (.holdAdd .n0 1#8 15#8)) .n0 (.holdAdd .n0 1#8 15#8)
        ∧ cell.permit.closeGrant = none ∧ cell.permit.shuttleGrant = none)
      ∧ Ready (on moving .n0 (.holdAdd .n0 1#8 15#8)) .n0 (.holdAdd .n0 1#8 15#8)
      ∧ ShuttleLaw (on moving .n0 (.holdAdd .n0 1#8 15#8)) := by
  refine ⟨?_, ?_, ?_, ?_, ?_, ready_on _ _ rfl, shuttleLaw_moving⟩ <;>
    (unfold Ready; decide +kernel)

theorem witness_HoldRemovalReachesStationEntriesOnly :
    (Ready (on heldFull .n3 (.holdClear .n3)) .n3 (.holdClear .n3)
        ∧ heldFull.permit.stationHolds.filter (fun _ => true) ≠ [])
      ∧ (Ready (on heldFull .n0 (.holdRemove .n0 0#8 0#8)) .n0 (.holdRemove .n0 0#8 0#8)
        ∧ heldFull.permit.stationHolds.filter (fun h => h.holder == .station .press) = [])
      ∧ (Ready (on heldFull .n3 (.holdRemove .n3 2#8 12#8)) .n3 (.holdRemove .n3 2#8 12#8)
        ∧ (scopeOf 2#8).isSome = true
        ∧ heldFull.permit.stationHolds.filter (fun h => h.isMatch .line (some (.bay .a)) 12)
            ≠ [])
      ∧ (Ready (on cell .n3 (.holdRemove .n3 4#8 0#8)) .n3 (.holdRemove .n3 4#8 0#8)
        ∧ (4#8 : Byte) ≠ 0#8 ∧ scopeOf 4#8 = none)
      ∧ (Ready (on cell .n3 (.holdRemove .n3 0#8 16#8)) .n3 (.holdRemove .n3 0#8 16#8)
        ∧ 15 < (16#8 : Byte).toNat) := by
  unfold Ready
  decide +kernel

theorem witness_PressReportsMoveThePress :
    (Ready (on cell .n0 (.reportPress .n0 5#8 none)) .n0 (.reportPress .n0 5#8 none)
        ∧ pressOf 5#8 = none)
      ∧ (Ready (on moving .n0 (.reportPress .n0 2#8 none)) .n0 (.reportPress .n0 2#8 none)
        ∧ pressOf 2#8 = some .closing ∧ moving.permit.press = .open
        ∧ moving.permit.shuttleGrant = some .a)
      ∧ pressOf 4#8 = some .opening
      ∧ (Ready (on granted .n0 (.reportPress .n0 3#8 none)) .n0 (.reportPress .n0 3#8 none)
        ∧ granted.permit.position.inBay = some .b ∧ granted.slots.get .b = some shotB
        ∧ shotB.stage = .charged ∧ granted.permit.shuttleGrant = none)
      ∧ (cell.permit.closeGrant = none ∧ ((online cell).ports.get .n0).queue.length ≤ 5)
      ∧ (Ready (on granted .n0 (.reportPress .n0 3#8 (some 1840#16))) .n0
            (.reportPress .n0 3#8 (some 1840#16)) ∧ pressOf 3#8 = some .closed)
      ∧ (Ready (on closed .n0 (.reportPress .n0 1#8 (some 1499#16))) .n0
            (.reportPress .n0 1#8 (some 1499#16)) ∧ pressOf 1#8 = some .open
        ∧ closed.shotStage .b = some .closed)
      ∧ ShuttleLaw (on moving .n0 (.reportPress .n0 2#8 none)) := by
  refine ⟨?_, ?_, ?_, ?_, ?_, ?_, ?_, shuttleLaw_moving⟩ <;> (try unfold Ready) <;> decide +kernel

/-- R109, R111, R112: a force on an OPEN report is taken before the shot opens. -/
theorem test_open_with_force :
    let t := serve closed .n0 (.reportPress .n0 1#8 (some 1499#16))
    (t.slots.get .b).map (fun sh => (sh.stage, sh.pressPeak, sh.exceptions))
      = some (.opened, some 1499, [.forceLow, .earlyOpen]) := by decide +kernel

theorem witness_PressForceRaisesThePeak :
    Ready (on closed .n0 (.reportPress .n0 3#8 (some 1499#16))) .n0
        (.reportPress .n0 3#8 (some 1499#16))
      ∧ closed.permit.press = .closed ∧ closed.permit.position.inBay = some .b
      ∧ closed.shotStage .b = some .closed
      ∧ (closed.slots.get .b).bind closed.shotRecipe = some recipe140 := by
  unfold Ready
  decide +kernel

theorem witness_OpenReportOpensPressedShots :
    Ready (on closed .n0 (.reportPress .n0 1#8 none)) .n0 (.reportPress .n0 1#8 none)
      ∧ closed.shotStage .b = some .closed := by
  unfold Ready
  decide +kernel

/-- The cell with another heat mode. -/
def inMode (m : HeatMode) : State := { cell with heat.mode := m }

theorem witness_CloseIsGrantedExactlyWhenPermitted :
    (Ready (on granted .n0 (.closeRequest .n0)) .n0 (.closeRequest .n0)
        ∧ granted.permit.closeGrant = some .b)
      ∧ (Ready (on moving .n0 (.closeRequest .n0)) .n0 (.closeRequest .n0)
        ∧ moving.permit.closeGrant = none ∧ moving.permit.shuttleGrant.isSome = true)
      ∧ (Position.unknown.inBay = none ∧ cell.permit.shuttleGrant = none)
      ∧ (closed.permit.press ≠ .open ∧ closed.permit.position.inBay = some .b)
      ∧ weighing.shotStage .b ≠ some .charged
      ∧ (warned.holds = [] ++ ⟨.self, .cell, 2⟩ :: [] ∧ warned.slots.get .b = some shotB)
      ∧ (∀ h ∈ cell.holds, h.scope ≠ .cell ∧ h.scope ≠ .bay .b)
      ∧ ({ cell with permit.areas.press.holder := some .extract } : State).permit.areas.press.holder
          = some .extract
      ∧ ({ cell with upperCount := 60 } : State).upperDue = true
      ∧ cell.upperDue = false
      ∧ (inMode .setback).heat.mode ≠ .run
      ∧ (∃ z ∈ curingZones .b,
          ((State.reset.heat.zones).get z).atTemp = false)
      ∧ (Ready (on cell .n0 (.closeRequest .n0)) .n0 (.closeRequest .n0)
        ∧ cell.permit.press = .open ∧ shotB.stage = .charged
        ∧ (cell.permit.areas.get .press).holder = none ∧ cell.heat.mode = .run
        ∧ ∀ z ∈ curingZones .b, (cell.heat.zones.get z).atTemp = true) := by
  unfold Ready
  decide +kernel

theorem witness_ShuttleIsGrantedExactlyWhenPermitted :
    (Ready (on cell .n0 (.shuttleRequest .n0 1#8)) .n0 (.shuttleRequest .n0 1#8)
        ∧ bayOf 1#8 = some .a ∧ cell.permit.position ≠ Position.ofIn .a
        ∧ cell.permit.press = .open ∧ cell.permit.closeGrant = none
        ∧ cell.permit.shuttleGrant = none ∧ (∀ h ∈ cell.holds, h.scope ≠ .cell)
        ∧ (cell.permit.areas.get .press).holder = none
        ∧ (cell.permit.areas.get .load).holder = none
        ∧ cell.shotStage .a ≠ some .charging ∧ cell.shotStage .b ≠ some .charging)
      ∧ (Ready (on cell .n0 (.shuttleRequest .n0 2#8)) .n0 (.shuttleRequest .n0 2#8)
        ∧ cell.permit.position = Position.ofIn .b ∧ cell.heat.mode ≠ .setbackAuto)
      ∧ (Ready (on (inMode .setbackAuto) .n0 (.shuttleRequest .n0 2#8)) .n0
            (.shuttleRequest .n0 2#8)
        ∧ (inMode .setbackAuto).permit.closeGrant = none)
      ∧ (Ready (on cell .n0 (.shuttleRequest .n0 3#8)) .n0 (.shuttleRequest .n0 3#8)
        ∧ bayOf 3#8 = none)
      ∧ Ready (on (inMode .setbackAuto) .n0 (.shuttleRequest .n0 1#8)) .n0
            (.shuttleRequest .n0 1#8) := by
  unfold Ready
  decide +kernel

theorem witness_ShuttleDoneSetsThePosition :
    (Ready (on moving .n0 (.shuttleDone .n0 0#8)) .n0 (.shuttleDone .n0 0#8) ∧ bayOf 0#8 = none)
      ∧ (Ready (on granted .n0 (.shuttleDone .n0 1#8)) .n0 (.shuttleDone .n0 1#8)
        ∧ granted.permit.closeGrant ≠ none)
      ∧ (Ready (on moving .n0 (.shuttleDone .n0 1#8)) .n0 (.shuttleDone .n0 1#8)
        ∧ bayOf 1#8 = some .a ∧ moving.permit.closeGrant = none) := by
  unfold Ready
  decide +kernel

theorem witness_ShuttleLawIsKept :
    moving.shuttleOk = true ∧ ShuttleLaw (waiting moving .heatPeriod)
      ∧ ∃ t, step (waiting moving .heatPeriod) = .next t := by
  exact ⟨by decide +kernel, shuttleLaw_moving, step_waiting _ _⟩

/-- Two shots whose contexts are right make the context law. -/
theorem contextLaw_of (s : State) (a b : Option Shot) (hs : s.slots = ⟨a, b⟩)
    (h : ∀ y sh, (⟨a, b⟩ : PerBay (Option Shot)).get y = some sh →
      sh.bay = y ∧ (s.bays.get y).mouldId = sh.mouldId ∧ sh.mouldId ≠ 0
        ∧ (s.bays.get y).recipeSlot = some sh.recipeSlot
        ∧ (s.recipes.get sh.recipeSlot).revision = sh.recipeRevision
        ∧ ∃ r, s.recipeAt sh.recipeSlot = some r ∧ r.number = sh.recipeNumber) : ContextLaw s := by
  intro y sh hy
  rw [hs] at hy
  exact h y sh hy

theorem useLaw_granted : UseLaw granted := by
  rintro ⟨h, l⟩
  cases h <;> cases l <;> rfl

theorem contextLaw_granted : ContextLaw granted := by
  refine contextLaw_of _ (some shotA) (some shotB) rfl ?_
  intro y sh h
  cases y <;> cases h <;> exact ⟨rfl, rfl, by decide, rfl, rfl, recipe140, rfl, rfl⟩

theorem ejectLaw_granted : EjectLaw granted := fun h => absurd rfl h

theorem closeLaw_granted : CloseLaw granted := by
  intro y h
  cases h
  refine ⟨.inl rfl, rfl, rfl, by decide +kernel, rfl, by decide +kernel, rfl, ?_, rfl⟩
  decide +kernel

theorem witness_CloseLawIsKept :
    granted.closeOk = true ∧ ShuttleLaw (waiting granted .heatPeriod)
      ∧ UseLaw (waiting granted .heatPeriod) ∧ ContextLaw (waiting granted .heatPeriod)
      ∧ EjectLaw (waiting granted .heatPeriod) ∧ CloseLaw (waiting granted .heatPeriod)
      ∧ ∃ t, step (waiting granted .heatPeriod) = .next t :=
  ⟨by decide +kernel, shuttleLaw_of_none _ rfl, useLaw_granted, contextLaw_granted,
    ejectLaw_granted, closeLaw_granted, step_waiting _ _⟩

theorem witness_HoldLawIsKept :
    RolesLaw (waiting heldFull .heatPeriod) ∧ HoldLaw (waiting heldFull .heatPeriod)
      ∧ ∃ t, step (waiting heldFull .heatPeriod) = .next t := by
  refine ⟨rolesLaw_cell, ⟨by decide +kernel, by decide +kernel, ?_, ?_⟩, step_waiting _ _⟩
  · intro h hm
    obtain ⟨n, hn, rfl⟩ := List.mem_map.mp hm
    have := List.mem_range.mp hn
    exact ⟨⟨.line, rfl⟩, by simp, by simp; omega⟩
  · intro _
    refine ⟨⟨fun h => absurd h (by decide +kernel), ?_⟩, by decide +kernel, ?_⟩
    · rintro ⟨p, hp, hs⟩
      cases p <;> cases hs
    · intro y
      cases y <;> rfl

theorem witness_AreaClaimsAreGivenAndReleased :
    (Ready (on cell .n1 (.areaEnter .n1 1#8)) .n1 (.areaEnter .n1 1#8)
        ∧ cell.roleOf .n1 = AreaUser.loader.role ∧ cell.heat.mode ≠ .setbackAuto
        ∧ areaOf 1#8 = some .press ∧ Area.load ≠ Area.press
        ∧ (cell.permit.areas.get .press).holder = none ∧ cell.permit.press = .open
        ∧ cell.permit.closeGrant = none)
      ∧ (Ready (on ejecting .n1 (.areaEnter .n1 2#8)) .n1 (.areaEnter .n1 2#8)
        ∧ areaOf 2#8 = some .load ∧ (ejecting.permit.areas.get .load).holder ≠ none
        ∧ (ejecting.permit.areas.get .load).waiter = none)
      ∧ (Ready (on ejecting .n2 (.areaLeave .n2 2#8)) .n2 (.areaLeave .n2 2#8)
        ∧ ejecting.roleOf .n2 = AreaUser.extract.role
        ∧ (ejecting.permit.areas.get .load).holder = some .extract)
      ∧ Ready (on ejecting .n3 (.forceLeave .n3 2#8)) .n3 (.forceLeave .n3 2#8)
      ∧ (Ready (on cell .n1 (.areaLeave .n1 1#8)) .n1 (.areaLeave .n1 1#8)
        ∧ (cell.permit.areas.get .press).holder ≠ some .loader
        ∧ (cell.permit.areas.get .press).waiter ≠ some .loader)
      ∧ Ready (on cell .n3 (.forceLeave .n3 1#8)) .n3 (.forceLeave .n3 1#8)
      ∧ (Ready (on (inMode .setbackAuto) .n1 (.areaEnter .n1 2#8)) .n1 (.areaEnter .n1 2#8)
        ∧ (inMode .setbackAuto).heat.mode = .setbackAuto
        ∧ (inMode .setbackAuto).permit.closeGrant = none)
      ∧ (areaOf 0#8 = none ∧ areaOf 3#8 = none
        ∧ Ready (on cell .n1 (.areaEnter .n1 3#8)) .n1 (.areaEnter .n1 3#8)
        ∧ Ready (on cell .n1 (.areaLeave .n1 0#8)) .n1 (.areaLeave .n1 0#8)
        ∧ Ready (on cell .n3 (.forceLeave .n3 3#8)) .n3 (.forceLeave .n3 3#8)) := by
  unfold Ready
  decide +kernel

theorem witness_AreaLawIsKept :
    AreaLaw (waiting ejecting .heatPeriod)
      ∧ ∃ t, step (waiting ejecting .heatPeriod) = .next t := by
  refine ⟨⟨?_, ?_⟩, step_waiting _ _⟩
  · intro r u
    cases r <;> cases u <;> decide +kernel
  · intro u
    cases u <;> decide +kernel

/-! ### Witnesses: shots, recipes and moulds -/

theorem bindLaw_of (s : State)
    (hb : s.bays = ⟨⟨2201, some slot3, 100, 17, false⟩, ⟨2202, some slot3, 100, 22, false⟩⟩)
    (hr : s.recipeAt slot3 = some recipe140) : BindLaw s := by
  refine ⟨fun y _ => ⟨slot3, recipe140, ?_, hr⟩, fun _ => ?_⟩
  · rw [hb]; cases y <;> rfl
  · rw [hb]; decide

theorem witness_ChargeBeginOpensAShot :
    Ready (on freeA .n1 (.chargeBegin .n1 0#8)) .n1 (.chargeBegin .n1 0#8) ∧ bayOf 0#8 = none
      ∧ Ready (on freeA .n1 (.chargeBegin .n1 1#8)) .n1 (.chargeBegin .n1 1#8)
      ∧ BindLaw (on freeA .n1 (.chargeBegin .n1 1#8)) ∧ bayOf 1#8 = some .a
      ∧ freeA.slots.get .a = none ∧ freeA.permit.position.outBay = some .a
      ∧ freeA.serial = some 10403 ∧ ¬512 ≤ freeA.history.pending + freeA.openShots
      ∧ freeA.lowerDue .a = false ∧ freeA.heat.parkPending = false ∧ freeA.heat.mode = .run
      ∧ cell.slots.get .a ≠ none := by
  refine ⟨ready_on _ _ rfl, rfl, ready_on _ _ rfl, bindLaw_of _ rfl rfl, ?_⟩
  decide +kernel

theorem serialLaw_stored : SerialLaw stored := by
  refine ⟨by decide +kernel, ?_⟩
  show ∀ k ∈ stored.allSerials, k < 10403
  decide +kernel

theorem witness_SerialLawIsKept :
    (Ready (on State.reset .n3 (.serialBase .n3 4294967294#32)) .n3
          (.serialBase .n3 4294967294#32)
        ∧ State.reset.serial = none ∧ (4294967294#32 : BitVec 32).toNat ≤ 4294967294)
      ∧ (Ready (on cell .n3 (.serialBase .n3 4294967295#32)) .n3 (.serialBase .n3 4294967295#32)
        ∧ cell.serial ≠ none ∧ 4294967294 < (4294967295#32 : BitVec 32).toNat)
      ∧ SerialLaw (waiting stored .heatPeriod)
      ∧ ∃ t, step (waiting stored .heatPeriod) = .next t := by
  refine ⟨⟨ready_on _ _ rfl, by decide +kernel⟩, ⟨ready_on _ _ rfl, by decide +kernel⟩,
    serialLaw_stored, step_waiting _ _⟩

/-- The weighing cell's laws. -/
theorem useLaw_weighing : UseLaw weighing := by
  rintro ⟨h, l⟩
  cases h <;> cases l <;> rfl

theorem contextLaw_weighing : ContextLaw weighing := by
  refine contextLaw_of _ _ _ rfl ?_
  intro y sh h
  cases y <;> cases h <;> exact ⟨rfl, rfl, by decide, rfl, rfl, recipe140, rfl, rfl⟩

theorem weighLaw_weighing : WeighLaw weighing := by
  intro y h
  cases h
  exact ⟨_, recipe140, rfl, rfl, rfl, by decide⟩

theorem chargeLaw_weighing : ChargeLaw weighing := by
  intro y sh r h hr
  cases y <;> cases h <;> cases hr <;>
    exact ⟨by decide, by decide, by decide, by decide⟩

theorem witness_ShotLawsAreKept :
    BindLaw (waiting weighing .heatPeriod) ∧ UseLaw (waiting weighing .heatPeriod)
      ∧ ContextLaw (waiting weighing .heatPeriod) ∧ EjectLaw (waiting weighing .heatPeriod)
      ∧ WeighLaw (waiting weighing .heatPeriod)
      ∧ ∃ t, step (waiting weighing .heatPeriod) = .next t :=
  ⟨bindLaw_of _ rfl rfl, useLaw_weighing, contextLaw_weighing, fun h => absurd rfl h,
    weighLaw_weighing, step_waiting _ _⟩

/-- A cell whose store is full, its record of the lowest filing number taken. -/
def fullStore : State :=
  { ejected with history :=
      ⟨record 1 [] true :: (List.range 511).map fun n => record (n + 2) [] false, 512, 510, false⟩ }

theorem witness_FilingMovesTheShotToTheStore :
    (Ready (on ejected .n2 (.partTaken .n2 1#8 1#8)) .n2 (.partTaken .n2 1#8 1#8)
        ∧ bayOf 1#8 = some .a ∧ ejected.shotStage .a = some .ejected
        ∧ (ejected.permit.areas.get .load).holder = some .extract
        ∧ ejected.history.slots.length < 512)
      ∧ Ready (on ejected .n2 (.partTaken .n2 1#8 2#8)) .n2 (.partTaken .n2 1#8 2#8)
      ∧ (Ready (on granted .n3 (.shotAbort .n3 2#8)) .n3 (.shotAbort .n3 2#8)
        ∧ granted.slots.get .b = some shotB)
      ∧ (512 ≤ fullStore.history.slots.length
        ∧ fullStore.history.slots = [] ++ record 1 [] true ::
            (List.range 511).map (fun n => record (n + 2) [] false)
        ∧ (record 1 [] true).exported = true ∧ (record 1 [] true).amended = false
        ∧ ∀ z ∈ (List.range 511).map (fun n => record (n + 2) [] false), z.exported = false) := by
  refine ⟨⟨ready_on _ _ rfl, by decide +kernel⟩, ready_on _ _ rfl,
    ⟨ready_on _ _ rfl, by decide +kernel⟩, ?_, rfl, rfl, rfl, ?_⟩
  · simp [fullStore]
  · intro z hz
    obtain ⟨n, -, rfl⟩ := List.mem_map.mp hz
    rfl

/-- The cell with a park pending, bay A empty and a close grant for bay B. -/
def parking : State :=
  { granted with slots.a := none, heat.parkPending := true, lastHeat.park := true }

/-- A grant for bay B, an EJECTED shot on bay A whose filing makes the upper release due. -/
def nearlyDue : State := { ejected with permit.closeGrant := some .b, upperCount := 59 }

theorem witness_FilingMovesTheShotToTheStore_heat :
    (Ready (on cell .n3 (.shotAbort .n3 0#8)) .n3 (.shotAbort .n3 0#8) ∧ bayOf 0#8 = none)
      ∧ (Ready (on freeA .n3 (.shotAbort .n3 1#8)) .n3 (.shotAbort .n3 1#8)
        ∧ freeA.slots.get .a = none)
      ∧ (Ready (on ejected .n2 (.partTaken .n2 1#8 3#8)) .n2 (.partTaken .n2 1#8 3#8)
        ∧ (3#8 : Byte) ≠ 1#8 ∧ (3#8 : Byte) ≠ 2#8)
      ∧ (Ready (on ejecting .n2 (.partTaken .n2 1#8 1#8)) .n2 (.partTaken .n2 1#8 1#8)
        ∧ ejecting.shotStage .a ≠ some .ejected)
      ∧ (let s : State := { ejected with permit.areas := ⟨⟨none, none⟩, ⟨none, none⟩⟩ }
         Ready (on s .n2 (.partTaken .n2 1#8 2#8)) .n2 (.partTaken .n2 1#8 2#8)
           ∧ s.shotStage .a = some .ejected ∧ (s.permit.areas.get .load).holder ≠ some .extract)
      ∧ (Ready (on parking .n3 (.shotAbort .n3 2#8)) .n3 (.shotAbort .n3 2#8)
        ∧ parking.slots.get .b = some shotB ∧ parking.heat.parkPending = true
        ∧ parking.slots.get Bay.b.other = none ∧ parking.heat.mode = .run
        ∧ parking.permit.closeGrant = some .b)
      ∧ (Ready (on nearlyDue .n2 (.partTaken .n2 1#8 1#8)) .n2 (.partTaken .n2 1#8 1#8)
        ∧ nearlyDue.permit.closeGrant = some .b ∧ Bay.b ≠ Bay.a
        ∧ nearlyDue.slots.get .b = some shotB ∧ nearlyDue.upperDue = false
        ∧ (serve nearlyDue .n2 (.partTaken .n2 1#8 1#8)).upperDue = true)
      ∧ RolesLaw nearlyDue ∧ CloseLaw (on granted .n3 (.shotAbort .n3 2#8))
      ∧ CloseLaw (on parking .n3 (.shotAbort .n3 2#8))
      ∧ CloseLaw (on nearlyDue .n2 (.partTaken .n2 1#8 1#8)) := by
  unfold Ready
  refine ⟨by decide +kernel, by decide +kernel, by decide +kernel, by decide +kernel,
    by decide +kernel, by decide +kernel, by decide +kernel, rolesLaw_cell, closeLaw_granted, ?_,
    ?_⟩ <;>
    (intro y h
     cases h
     refine ⟨.inl rfl, rfl, rfl, by decide +kernel, rfl, by decide +kernel, rfl, ?_, rfl⟩
     decide +kernel)

/-- R18, R23, R69: an abort that completes a park, as PRESS and LINE receive it after
the two start notices. -/
theorem test_abort_park_notices :
    let t := serve parking .n3 (.shotAbort .n3 2#8)
    ((t.ports.get .n0).queue.drop 2).map (·.notice)
        = [⟨.closeRevoked, some .b, some 10402, 3, 0⟩, ⟨.heatMode, none, none, 3, 0⟩]
      ∧ ((t.ports.get .n3).queue.drop 2).map (·.notice)
        = [⟨.shotFiled, some .b, some 10402, 2, 1⟩, ⟨.heatMode, none, none, 3, 0⟩,
           ⟨.parked, none, none, 0, 0⟩] := by decide +kernel

/-- The fields of recipe 140 as RECIPE WRITE carries them. -/
def raw140 : RawRecipe where
  number := 140#16
  upper := Quad.all 1500#16
  mould := Quad.all 1500#16
  readyBand := 50#16
  overTemp := 1560#16
  cureRef := 1500#16
  cureTarget := 300#16
  minClosed := 240#16
  maxClosed := 600#16
  overstay := 60#16
  chargeTarget := 14200#32
  tolLow := 150#16
  tolHigh := 250#16
  maxPieces := 6#8
  minPressForce := 1500#16
  demouldLimit := 600#16
  abortLimit := 900#16
  ejectTimeout := 20#8
  lowerInterval := 40#16
  upperInterval := 60#16

theorem test_storedRecipe : storedRecipe raw140 = recipe140 := by decide +kernel

theorem witness_RecipeRequestsChangeFreeSlots :
    (slotOf 16#8 = none
      ∧ Ready (on cell .n3 (.recipeWrite .n3 16#8 raw140)) .n3 (.recipeWrite .n3 16#8 raw140)
      ∧ Ready (on cell .n3 (.recipeErase .n3 16#8)) .n3 (.recipeErase .n3 16#8))
      ∧ slotOf 3#8 = some slot3
      ∧ (Ready (on cell .n3 (.recipeWrite .n3 3#8 raw140)) .n3 (.recipeWrite .n3 3#8 raw140)
        ∧ (cell.recipes.get slot3).inUse ≠ 0)
      ∧ (Ready (on empty .n3 (.recipeWrite .n3 3#8 raw140)) .n3 (.recipeWrite .n3 3#8 raw140)
        ∧ empty.judgeWrite slot3 (storedRecipe raw140) = none)
      ∧ (Ready (on cell .n3 (.recipeErase .n3 3#8)) .n3 (.recipeErase .n3 3#8))
      ∧ (Ready (on empty .n3 (.recipeErase .n3 3#8)) .n3 (.recipeErase .n3 3#8)
        ∧ (empty.recipes.get slot3).inUse = 0 ∧ (empty.bays.get .a).recipeSlot = some slot3)
      ∧ (Ready (on State.reset .n3 (.recipeErase .n3 3#8)) .n3 (.recipeErase .n3 3#8)
        ∧ (State.reset.bays.get .a).recipeSlot ≠ some slot3
        ∧ (State.reset.bays.get .b).recipeSlot ≠ some slot3) := by
  unfold Ready
  decide +kernel

theorem witness_RecipeIsFixedWhileInUse :
    ((waiting cell .heatPeriod).recipes.get slot3).inUse ≠ 0
      ∧ (waiting cell .heatPeriod).phase ≠ .starting .cold
      ∧ ∃ t, step (waiting cell .heatPeriod) = .next t :=
  ⟨by decide +kernel, by decide +kernel, step_waiting _ _⟩

theorem witness_BindingNeedsAnEmptyBay :
    (Ready (on empty .n3 (.bayBind .n3 3#8 5#16 3#8)) .n3 (.bayBind .n3 3#8 5#16 3#8)
        ∧ bayOf 3#8 = none)
      ∧ (Ready (on empty .n3 (.bayBind .n3 1#8 5#16 16#8)) .n3 (.bayBind .n3 1#8 5#16 16#8)
        ∧ slotOf 16#8 = none)
      ∧ Ready (on empty .n3 (.bayBind .n3 1#8 0#16 3#8)) .n3 (.bayBind .n3 1#8 0#16 3#8)
      ∧ (Ready (on empty .n3 (.bayUnbind .n3 0#8)) .n3 (.bayUnbind .n3 0#8) ∧ bayOf 0#8 = none)
      ∧ (Ready (on cell .n3 (.bayBind .n3 1#8 5#16 3#8)) .n3 (.bayBind .n3 1#8 5#16 3#8)
        ∧ bayOf 1#8 = some .a ∧ (5#16 : BitVec 16) ≠ 0#16 ∧ slotOf 3#8 = some slot3
        ∧ cell.slots.get .a ≠ none)
      ∧ (Ready (on empty .n3 (.bayBind .n3 1#8 2202#16 3#8)) .n3 (.bayBind .n3 1#8 2202#16 3#8)
        ∧ (empty.bays.get Bay.a.other).mouldId = (2202#16 : BitVec 16).toNat)
      ∧ (Ready (on empty .n3 (.bayBind .n3 1#8 5#16 3#8)) .n3 (.bayBind .n3 1#8 5#16 3#8)
        ∧ empty.slots.get .a = none ∧ (empty.recipes.get slot3).recipe ≠ none
        ∧ (empty.bays.get Bay.a.other).mouldId ≠ (5#16 : BitVec 16).toNat)
      ∧ (Ready (on cell .n3 (.bayUnbind .n3 1#8)) .n3 (.bayUnbind .n3 1#8))
      ∧ (Ready (on State.reset .n3 (.bayUnbind .n3 1#8)) .n3 (.bayUnbind .n3 1#8)
        ∧ State.reset.slots.get .a = none ∧ (State.reset.bays.get .a).mouldId = 0)
      ∧ (Ready (on empty .n3 (.bayUnbind .n3 1#8)) .n3 (.bayUnbind .n3 1#8)
        ∧ (empty.bays.get .a).mouldId ≠ 0) := by
  unfold Ready
  decide +kernel

/-- The cell with bay A's mould check set, its hold present. -/
def checked : State :=
  { empty with
    bays := ⟨⟨2201, some slot3, 100, 17, true⟩, ⟨2202, some slot3, 100, 22, false⟩⟩
    permit.selfHolds.mouldCheck := ⟨true, false⟩ }

theorem witness_MouldCareClearsItsMarks :
    (Ready (on cell .n3 (.releaseApplied .n3 4#8)) .n3 (.releaseApplied .n3 4#8)
        ∧ releaseTargetOf 4#8 = none)
      ∧ (Ready (on cell .n3 (.mouldChecked .n3 3#8)) .n3 (.mouldChecked .n3 3#8) ∧ bayOf 3#8 = none)
      ∧ (Ready (on cell .n3 (.releaseApplied .n3 2#8)) .n3 (.releaseApplied .n3 2#8)
        ∧ releaseTargetOf 2#8 = some (.lower .b) ∧ cell.permit.position.outBay ≠ some .b)
      ∧ (Ready (on empty .n2 (.releaseApplied .n2 1#8)) .n2 (.releaseApplied .n2 1#8)
        ∧ releaseTargetOf 1#8 = some (.lower .a) ∧ empty.permit.position.outBay = some .a
        ∧ empty.slots.get .a = none ∧ empty.roleOf .n2 = .extract
        ∧ (empty.permit.areas.get .load).holder ≠ some .extract)
      ∧ (Ready (on empty .n3 (.releaseApplied .n3 1#8)) .n3 (.releaseApplied .n3 1#8)
        ∧ empty.roleOf .n3 ≠ .extract)
      ∧ (Ready (on empty .n2 (.releaseApplied .n2 3#8)) .n2 (.releaseApplied .n2 3#8)
        ∧ releaseTargetOf 3#8 = some .upper
        ∧ (empty.permit.areas.get .press).holder ≠ some .extract)
      ∧ Ready (on empty .n3 (.releaseApplied .n3 3#8)) .n3 (.releaseApplied .n3 3#8)
      ∧ (Ready (on empty .n3 (.mouldChecked .n3 1#8)) .n3 (.mouldChecked .n3 1#8)
        ∧ (empty.bays.get .a).mouldCheck = false)
      ∧ (Ready (on checked .n3 (.mouldChecked .n3 1#8)) .n3 (.mouldChecked .n3 1#8)
        ∧ (checked.bays.get .a).mouldCheck = true
        ∧ checked.permit.selfHolds.mouldCheck.get .a = true) := by
  unfold Ready
  decide +kernel

/-! ### Witnesses: the charge and demoulding -/

/-- The weighing cell with no weigh pending. -/
def charging : State := { weighing with weigh := ⟨.none, none, 412⟩ }

/-- The cell with the scale's node MISSING. -/
def deaf : State :=
  { charging with
    sensor.nodes := charging.sensor.nodes.set ⟨.n0, .n3⟩ { Node.start .load with state := .missing } }

theorem witness_WeighSlotIsTakenAndFreed :
    (Ready (on charging .n1 (.weighPiece .n1 3#8)) .n1 (.weighPiece .n1 3#8) ∧ bayOf 3#8 = none)
      ∧ (Ready (on weighing .n1 (.weighPiece .n1 2#8)) .n1 (.weighPiece .n1 2#8)
        ∧ bayOf 2#8 = some .b ∧ weighing.weigh.slot ≠ .none)
      ∧ charging.shotStage .a ≠ some .charging
      ∧ (Ready (on charging .n1 (.weighPiece .n1 2#8)) .n1 (.weighPiece .n1 2#8)
        ∧ charging.weigh.slot = .none ∧ charging.shotStage .b = some .charging
        ∧ (charging.slots.get .b).bind charging.shotRecipe = some recipe140
        ∧ charging.deadNode .w = none ∧ 1 < recipe140.maxPieces)
      ∧ deaf.deadNode .w = some 4
      ∧ (Ready (on charging .n1 (.tare .n1)) .n1 (.tare .n1)
        ∧ Ready (on weighing .n1 (.tare .n1)) .n1 (.tare .n1)
        ∧ Ready (on deaf .n3 (.tare .n3)) .n3 (.tare .n3))
      ∧ (Ready (on weighing .n1 (.weighCancel .n1)) .n1 (.weighCancel .n1)
        ∧ weighing.weigh.slot = .weigh .b ∧ (weighing.slots.get .b).isSome = true)
      ∧ Ready (on charging .n1 (.weighCancel .n1)) .n1 (.weighCancel .n1)
      ∧ (weighing.phase = .running ∧ weighing.weigh.timer.isSome = true)
      ∧ (({ weighing with weigh := ⟨.tare .line, some 1, 0⟩ } : State).weigh.slot = .tare .line) := by
  unfold Ready
  decide +kernel

theorem witness_StableWindowCaptures :
    scale.phase = .running ∧ scale.sensor.polling = some ⟨.n0, .n3⟩
      ∧ scale.cfg.nodeKinds.get ⟨.n0, .n3⟩ = .load ∧ scale.cfg.loadMap.w = some ⟨.n0, .n3⟩
      ∧ (scale.sensor.nodes.get ⟨.n0, .n3⟩).state ≠ .missing
      ∧ GoodReply (replied 4#8 (.load ⟨282618#24, false⟩)) ⟨.n0, .n3⟩
      ∧ isStable 8 40 (arrivals8 ++ [⟨282618#24, false⟩]) = true
      ∧ isStable 8 40 (arrivals8 ++ [⟨282618#24, true⟩]) = false
      ∧ scale.weigh.slot = .weigh .b ∧ (scale.slots.get .b).isSome = true := by
  unfold GoodReply
  decide +kernel

theorem witness_PieceListRequests :
    (Ready (on cell .n1 (.removePiece .n1 3#8)) .n1 (.removePiece .n1 3#8) ∧ bayOf 3#8 = none)
      ∧ (Ready (on cell .n1 (.removePiece .n1 2#8)) .n1 (.removePiece .n1 2#8)
        ∧ bayOf 2#8 = some .b ∧ cell.shotStage .b ≠ some .charging)
      ∧ (Ready (on weighing .n1 (.discardCharge .n1 2#8)) .n1 (.discardCharge .n1 2#8)
        ∧ weighing.weigh.slot = .weigh .b ∧ weighing.shotStage .b = some .charging)
      ∧ (Ready (on charging .n1 (.chargeDone .n1 2#8)) .n1 (.chargeDone .n1 2#8)
        ∧ charging.weigh.slot ≠ .weigh .b
        ∧ (charging.slots.get .b).map Shot.pieces
            = some ([] ++ [⟨1, 2841, stampAt 61214⟩])
        ∧ (charging.slots.get .b).bind charging.shotRecipe = some recipe140)
      ∧ (recipe140.chargeLow = 14050 ∧ recipe140.chargeHigh = 14450) := by
  unfold Ready
  decide +kernel

theorem witness_ChargeLawIsKept :
    WeighLaw (waiting weighing .heatPeriod) ∧ UseLaw (waiting weighing .heatPeriod)
      ∧ ContextLaw (waiting weighing .heatPeriod) ∧ EjectLaw (waiting weighing .heatPeriod)
      ∧ ChargeLaw (waiting weighing .heatPeriod)
      ∧ ∃ t, step (waiting weighing .heatPeriod) = .next t :=
  ⟨weighLaw_weighing, useLaw_weighing, contextLaw_weighing, fun h => absurd rfl h,
    chargeLaw_weighing, step_waiting _ _⟩

/-- The ejecting cell before the ejection begins. -/
def toEject : State := { ejecting with eject := Eject.start }

theorem witness_EjectionBeginsOnAnOpenedShot :
    (Ready (on toEject .n2 (.ejectBegin .n2 0#8)) .n2 (.ejectBegin .n2 0#8) ∧ bayOf 0#8 = none)
      ∧ (Ready (on ejecting .n2 (.ejectBegin .n2 1#8)) .n2 (.ejectBegin .n2 1#8)
        ∧ ejecting.eject.state ≠ .idle)
      ∧ (Ready (on toEject .n2 (.ejectBegin .n2 2#8)) .n2 (.ejectBegin .n2 2#8)
        ∧ toEject.shotStage .b ≠ some .opened)
      ∧ (Ready (on toEject .n2 (.ejectBegin .n2 1#8)) .n2 (.ejectBegin .n2 1#8)
        ∧ toEject.eject.state = .idle ∧ toEject.slots.get .a = some shotA
        ∧ shotA.stage = .opened ∧ toEject.shotRecipe shotA = some recipe140
        ∧ toEject.permit.position.outBay = some .a
        ∧ (toEject.permit.areas.get .load).holder = some .extract
        ∧ toEject.deadNode (forceChan .a) = none)
      ∧ ({ toEject with cfg.loadMap.fa := none } : State).deadNode (forceChan .a) = some 0
      ∧ (cell.permit.areas.get .load).holder ≠ some .extract
      ∧ weighing.permit.position.outBay ≠ some .a := by
  unfold Ready
  decide +kernel

theorem witness_OverforceStopsTheEjection :
    let s : State := { ejecting with sensor.polling := some ⟨.n1, .n0⟩ }
    s.phase = .running ∧ s.sensor.polling = some ⟨.n1, .n0⟩
      ∧ s.cfg.nodeKinds.get ⟨.n1, .n0⟩ = .load ∧ s.channelOf ⟨.n1, .n0⟩ = some (forceChan .a)
      ∧ (s.sensor.nodes.get ⟨.n1, .n0⟩).state ≠ .missing
      ∧ GoodReply (replied 5#8 (.load ⟨912#24, false⟩)) ⟨.n1, .n0⟩
      ∧ s.eject.state = .active ∧ s.eject.bay = some .a ∧ s.slots.get .a = some shotA
      ∧ s.shotRecipe shotA = some recipe140 ∧ recipe140.abortLimit = 900
      ∧ (let i : State := { toEject with sensor.polling := some ⟨.n1, .n1⟩ }
         i.phase = .running ∧ i.cfg.nodeKinds.get ⟨.n1, .n1⟩ = .load
           ∧ i.channelOf ⟨.n1, .n1⟩ = some (forceChan .b)
           ∧ (i.sensor.nodes.get ⟨.n1, .n1⟩).state ≠ .missing
           ∧ GoodReply (replied 6#8 (.load ⟨912#24, false⟩)) ⟨.n1, .n1⟩ ∧ i.eject.state = .idle)
      ∧ ejecting.eject.bay ≠ some .b := by
  unfold GoodReply
  decide +kernel

/-- Spec file 07, "Worked case: overforce, then retraction", event 4: 912 stops the ejection. The
channel's span of 65,536 makes a count of 912 the value 912. -/
theorem test_overforce :
    let s : State := { ejecting with sensor.polling := some ⟨.n1, .n0⟩, eject.peak := 780 }
    let t := after (.pollReply (replied 5#8 (.load ⟨912#24, false⟩))) s
    t.eject.state = .stopped ∧ t.eject.peak = 912 ∧ t.ejectOk = false
      ∧ (t.slots.get .a).map (·.exceptions) = some [.powerLimited, .ejectOverforce] := by
  decide +kernel

theorem witness_EjectionClosesTheShot :
    (ejecting.eject.state ≠ .idle ∧ ejecting.eject.bay = some .a
        ∧ ejecting.slots.get .a = some shotA ∧ ejecting.shotRecipe shotA = some recipe140)
      ∧ (bayOf 1#8 = some .a
        ∧ Ready (on ejecting .n2 (.ejectEnd .n2 1#8)) .n2 (.ejectEnd .n2 1#8))
      ∧ (ejecting.phase = .running ∧ ejecting.eject.timer.isSome = true)
      ∧ (Ready (on ejecting .n2 (.ejectEnd .n2 0#8)) .n2 (.ejectEnd .n2 0#8) ∧ bayOf 0#8 = none)
      ∧ (Ready (on toEject .n2 (.ejectEnd .n2 1#8)) .n2 (.ejectEnd .n2 1#8)
        ∧ toEject.eject.state = .idle)
      ∧ (Ready (on ejecting .n2 (.ejectEnd .n2 2#8)) .n2 (.ejectEnd .n2 2#8)
        ∧ bayOf 2#8 = some .b ∧ ejecting.eject.bay ≠ some .b) := by
  unfold Ready
  decide +kernel

/-! ### Witnesses: heat, cure, history and the sensor link -/

theorem witness_HeatRequestsSetModeAndZones :
    (Ready (on cell .n3 (.heatMode .n3 2#8)) .n3 (.heatMode .n3 2#8) ∧ heatModeOf 2#8 = none)
      ∧ (Ready (on granted .n3 (.heatMode .n3 3#8)) .n3 (.heatMode .n3 3#8)
        ∧ heatModeOf 3#8 = some .off ∧ granted.heat.mode = .run
        ∧ granted.lastHeat = ⟨granted.heat.mode, granted.heat.parkPending⟩)
      ∧ (Ready (on cell .n3 (.heatMode .n3 0#8)) .n3 (.heatMode .n3 0#8)
        ∧ heatModeOf 0#8 = some cell.heat.mode)
      ∧ (Ready (on { cell with heat.parkPending := true } .n3 (.park .n3)) .n3 (.park .n3))
      ∧ (Ready (on empty .n3 (.park .n3)) .n3 (.park .n3) ∧ empty.heat.parkPending = false
        ∧ empty.slots = ⟨none, none⟩)
      ∧ (Ready (on cell .n3 (.park .n3)) .n3 (.park .n3) ∧ cell.slots ≠ ⟨none, none⟩)
      ∧ Ready (on cell .n3 (.zoneEnable .n3 12#8)) .n3 (.zoneEnable .n3 12#8)
      ∧ Ready (on cell .n3 (.zoneDisable .n3 11#8)) .n3 (.zoneDisable .n3 11#8) := by
  unfold Ready
  decide +kernel

/-- Sources, targets and the lost zones of a disabled zone under a grant. -/
theorem witness_HeatRequestsSetModeAndZones_zones :
    (cell.bayRecipe .a = some recipe140 ∧ cell.heat.mode ≠ .off
        ∧ cell.zoneSource ⟨.bayA, .n0⟩ = some .a ∧ cell.zoneSource ⟨.upper, .n3⟩ = some .b)
      ∧ State.reset.zoneSource ⟨.upper, .n0⟩ = none
      ∧ (let s : State := { granted with heat.zones := Zones.ofFn fun z =>
            if z.number = 3 ∨ z.number = 9 then { warmZone with enabled := false } else warmZone }
         s.permit.closeGrant = some .b
           ∧ ((curingZones .b).filter fun z => (s.heat.zones.get z).atTemp
               && !(s.rederiveZones.heat.zones.get z).atTemp) = [⟨.upper, .n3⟩, ⟨.bayB, .n1⟩])
      ∧ (granted.permit.closeGrant = some .b ∧ granted.heat.mode = .run) := by decide +kernel

/-- R43, R63, R119: zone 3 disabled under a grant withdraws it with cause 2 and zone number 3. -/
theorem test_zone_disable_revokes :
    let t := serve { online granted with supply := .normal } .n3 (.zoneDisable .n3 3#8)
    t.permit.closeGrant = none
      ∧ ⟨.closeRevoked, some .b, some 10402, 2, 3⟩ ∈ (t.ports.get .n0).queue.map (·.notice) := by
  decide +kernel

/-- R43, R45: a zone that is disabled goes OFF and keeps the target its source gives it. -/
theorem test_disabled_zone_target :
    let z := (serve cell .n3 (.zoneDisable .n3 3#8)).heat.zones.get ⟨.upper, .n3⟩
    (z.state, z.target, z.effective, z.atTemp) = (.off, some 1500, none, false) := by decide +kernel

/-- R64, item 2: a change of mode judges every flag again, the zone's state and target the same. -/
theorem test_mode_change_judges :
    let s := { cell with
      cfg.setbackUpper := 1500
      heat.zones := Zones.all { warmZone with latest := some 1300 } }
    let z := (serve s .n3 (.heatMode .n3 1#8)).heat.zones.get ⟨.upper, .n0⟩
    (z.state, z.target, z.atTemp) = (.regulate, some 1500, false) := by decide +kernel

/-- The empty cell with its idle timer at the limit. -/
def idle : State := { empty with heat.idleTimer := 1800 }

theorem witness_HeatPeriodMeetsTheBudget :
    cell.phase = .running
      ∧ (cell.heat.zones.get ⟨.upper, .n0⟩).granted < 1000
      ∧ (idle.idleRuns = true ∧ 60 * idle.cfg.idleLimit ≤ idle.heat.idleTimer)
      ∧ (empty.idleRuns = true ∧ empty.heat.idleTimer < 60 * empty.cfg.idleLimit)
      ∧ (granted.phase = .running ∧ granted.permit.closeGrant = some .b)
      ∧ (cell.cfg.zoneMap.get ⟨.bayA, .n2⟩ = some ⟨⟨.n0, .n1⟩, .n2⟩
        ∧ ∀ z, cell.cfg.zoneMap.get z ≠ some ⟨⟨.n0, .n3⟩, .n0⟩)
      ∧ (cell.supply = .normal ∧ cell.permit.position = .bIn) := by
  refine ⟨by decide +kernel, by decide +kernel, by decide +kernel, by decide +kernel,
    by decide +kernel, ⟨by decide +kernel, ?_⟩, by decide +kernel⟩
  rintro ⟨g, i⟩
  cases g <;> cases i <;> decide +kernel

theorem witness_HeaterStaysOn :
    1000 ≤ (({ cell with heat.zones := Zones.all { warmZone with granted := 1000 } } : State).heat
      |>.zones.get ⟨.bayB, .n3⟩).granted := by decide +kernel

/-- The closed cell with every temperature channel's sample fresh at 150.0 °C. -/
def curing : State :=
  { closed with sensor.nodes := Hex.all { Node.start .temp with
      state := .ok, channels := Quad.all ⟨some ⟨1500, .ok⟩, true⟩ } }

theorem witness_CureStepCountsAndCures :
    closed.phase = .running ∧ closed.shotStage .b = some .closed
      ∧ (closed.slots.get .b).bind closed.shotRecipe = some recipe140
      ∧ (∃ z ∈ curingZones .b, ((after .heatPeriod closed).heat.zones.get z).validNow = false)
      ∧ (∀ z ∈ curingZones .b, ((after .heatPeriod curing).heat.zones.get z).validNow = true
          ∧ ((after .heatPeriod curing).heat.zones.get z).state ≠ .fault)
      ∧ (curingZones .b).map (fun z => ((after .heatPeriod curing).heat.zones.get z).latest)
          = (List.replicate 8 (1500 : Int)).map some := by decide +kernel

/-- A cure step at the reference temperature adds 256 (spec file 04, period 3 of the run). -/
theorem test_cure_period :
    ((after .heatPeriod curing).slots.get .b).map (fun sh => (sh.dose, sh.closedDuration))
      = some (256, 1) := by decide +kernel

theorem witness_HistoryRequestsMarkRecords :
    (Ready (on cell .n3 (.historyAck .n3 1#32)) .n3 (.historyAck .n3 1#32)
        ∧ cell.history.head = none)
      ∧ (Ready (on stored .n3 (.historyAck .n3 10002#32)) .n3 (.historyAck .n3 10002#32)
        ∧ stored.history.head = some (1, record 2 [] false)
        ∧ (record 2 [] false).shot.serial = (10002#32 : BitVec 32).toNat)
      ∧ Ready (on stored .n3 (.historyAck .n3 10003#32)) .n3 (.historyAck .n3 10003#32)
      ∧ (Ready (on stored .n3 (.dispositionSet .n3 10001#32 1#8)) .n3
            (.dispositionSet .n3 10001#32 1#8)
        ∧ dispositionOf 1#8 = some .accepted
        ∧ stored.history.find (10001#32 : BitVec 32).toNat
            = some (0, record 1 [.sticking] true)
        ∧ (record 1 [.sticking] true).verdict = .hold)
      ∧ (Ready (on stored .n3 (.dispositionSet .n3 10002#32 2#8)) .n3
            (.dispositionSet .n3 10002#32 2#8)
        ∧ (record 2 [] false).verdict ≠ .hold)
      ∧ stored.history.find (1#32 : BitVec 32).toNat = none
      ∧ (Ready (on stored .n3 (.dispositionSet .n3 10001#32 3#8)) .n3
            (.dispositionSet .n3 10001#32 3#8) ∧ dispositionOf 3#8 = none)
      ∧ ArmedLaw (on stored .n3 (.historyAck .n3 10002#32)) := by
  unfold Ready ArmedLaw
  decide +kernel

theorem witness_StoreLawIsKept :
    StoreLaw (waiting stored .heatPeriod) ∧ ArmedLaw (waiting stored .heatPeriod)
      ∧ ∃ t, step (waiting stored .heatPeriod) = .next t :=
  ⟨storeLaw_stored, fun _ => by decide +kernel, step_waiting _ _⟩

theorem witness_VerdictsAreFixed :
    StoreLaw (waiting stored .heatPeriod) ∧ VerdictLaw (waiting stored .heatPeriod)
      ∧ ∃ t, step (waiting stored .heatPeriod) = .next t := by
  refine ⟨storeLaw_stored, ?_, step_waiting _ _⟩
  unfold VerdictLaw
  decide +kernel

/-- The cell polling a node, the link idle, and a node at its third miss. -/
def polling (n : Ix16) : State := { cell with sensor.polling := some n }

def between : State := { cell with sensor.polling := none }

def nearlyLost : State :=
  { polling ⟨.n0, .n3⟩ with
    sensor.nodes := cell.sensor.nodes.set ⟨.n0, .n3⟩
      { Node.start .load with state := .ok, misses := 2 } }

theorem witness_PollsMoveTheNodeTable :
    (between.phase = .running ∧ between.sensor.polling = none)
      ∧ ((polling ⟨.n0, .n0⟩).sensor.polling = some ⟨.n0, .n0⟩
        ∧ (polling ⟨.n0, .n0⟩).cfg.nodeKinds.get ⟨.n0, .n0⟩ = .temp
        ∧ ((polling ⟨.n0, .n0⟩).sensor.nodes.get ⟨.n0, .n0⟩).state ≠ .missing
        ∧ GoodReply (replied 1#8 (.temp (Quad.all ⟨1500, .ok⟩))) ⟨.n0, .n0⟩
        ∧ ((polling ⟨.n0, .n0⟩).sensor.nodes.get ⟨.n0, .n0⟩).misses < 2)
      ∧ (2 ≤ (nearlyLost.sensor.nodes.get ⟨.n0, .n3⟩).misses
        ∧ (nearlyLost.sensor.nodes.get ⟨.n0, .n3⟩).state = .ok
        ∧ nearlyLost.cfg.nodeKinds.get ⟨.n0, .n3⟩ = .load
        ∧ nearlyLost.cfg.loadMap.w = some ⟨.n0, .n3⟩)
      ∧ (let s : State := { polling ⟨.n0, .n3⟩ with cfg.loadMap.w := none }
         s.cfg.nodeKinds.get ⟨.n0, .n3⟩ = .load ∧ s.channelOf ⟨.n0, .n3⟩ = none
           ∧ (s.sensor.nodes.get ⟨.n0, .n3⟩).state ≠ .missing
           ∧ GoodReply (replied 4#8 (.load ⟨0#24, false⟩)) ⟨.n0, .n3⟩)
      ∧ (deaf.sensor.nodes.get ⟨.n0, .n3⟩).state = .missing
      ∧ ((replied 4#8 (.load ⟨0#24, false⟩)).check = crc16 [4#8]
        ∧ (4#8 : Byte).toNat ≠ Ix16.toNat ⟨.n0, .n0⟩ + 1)
      ∧ (let s : State := { ejecting with
            sensor.polling := some ⟨.n1, .n0⟩
            sensor.nodes := ejecting.sensor.nodes.set ⟨.n1, .n0⟩
              { Node.start .load with state := .waiting, misses := 2 } }
         s.cfg.nodeKinds.get ⟨.n1, .n0⟩ = .load ∧ s.channelOf ⟨.n1, .n0⟩ = some (forceChan .a)
           ∧ s.eject.state = .active ∧ s.eject.bay = some .a
           ∧ 2 ≤ (s.sensor.nodes.get ⟨.n1, .n0⟩).misses) := by
  unfold GoodReply
  decide +kernel

end Sys2Proof.Machine.Tests
end

/-!
R12, R13: the law of the serials. Three commands alone touch the serial counter: SERIAL BASE sets it,
CHARGE BEGIN raises it past the serial it gives the shot it opens, and the end of a cold start clears
it with all shots and records. Nothing else brings a serial in: every other operation leaves the
serials of the open shots and of the records on file as they are, moves one from a bay to the store,
or loses some. Each operation is shown once to keep the law, in the order of the model's files, and a
command keeps it by the operations it is made of.
-/

namespace Sys2Proof.Machine

open Sys2Proof

/-! ### The serials of a state -/

/-- The serials open or on file but for the shot of one bay. -/
def State.serialsBeside (s : State) (y : Bay) : List Nat :=
  (serialOf s y.other).toList ++ s.history.slots.map fun r => r.shot.serial

/-- A bay's serial may be taken to the front. -/
theorem State.allSerials_perm (s : State) (y : Bay) :
    s.allSerials.Perm ((serialOf s y).toList ++ s.serialsBeside y) := by
  unfold State.allSerials State.openSerials State.serialsBeside serialOf
  simp only [Option.toList_map, ← List.append_assoc]
  cases y with
  | a => exact .refl _
  | b => exact List.perm_append_comm.append_right _

variable {s t : State}

/-- The law outlives every change that keeps the counter and brings no serial in. -/
theorem SerialLaw.of_lost (h : SerialLaw s) (hc : t.serial = s.serial) {lost : List Nat}
    (hperm : s.allSerials.Perm (lost ++ t.allSerials)) : SerialLaw t := by
  obtain ⟨hnodup, hbound⟩ := h
  have hmem : ∀ k ∈ t.allSerials, k ∈ s.allSerials :=
    fun k hk => hperm.mem_iff.2 (List.mem_append_right lost hk)
  obtain ⟨-, hkept, -⟩ := List.nodup_append.1 (hperm.nodup hnodup)
  refine ⟨hkept, ?_⟩
  rw [hc]
  cases hn : s.serial with
  | none =>
    simp only [hn] at hbound ⊢
    rw [hbound] at hmem
    exact List.eq_nil_iff_forall_not_mem.2 fun k hk => absurd (hmem k hk) List.not_mem_nil
  | some n =>
    simp only [hn] at hbound ⊢
    exact fun k hk => hbound k (hmem k hk)

/-- The same serials in another order. -/
theorem SerialLaw.of_perm (h : SerialLaw s) (hc : t.serial = s.serial)
    (hperm : s.allSerials.Perm t.allSerials) : SerialLaw t :=
  h.of_lost (lost := []) hc hperm

/-- Without an open shot and without a record the law holds of an UNSET counter. -/
theorem SerialLaw.of_nil (hc : t.serial = none) (hnil : t.allSerials = []) : SerialLaw t := by
  unfold SerialLaw
  simp [hc, hnil]

theorem SerialLaw.ite (c : Prop) [Decidable c] (hs : SerialLaw s) (ht : SerialLaw t) :
    SerialLaw (if c then s else t) := by
  split
  · exact hs
  · exact ht

/-- R15: a shot opened with the counter's value, in a bay that holds none, raises the counter by 1. -/
theorem SerialLaw.opened (h : SerialLaw s) {y : Bay} {n : Nat} (hn : s.serial = some n)
    (hfree : serialOf s y = none) (hopen : serialOf t y = some n)
    (hbeside : t.serialsBeside y = s.serialsBeside y) (hc : t.serial = some (n + 1)) :
    SerialLaw t := by
  obtain ⟨hnodup, hbound⟩ := h
  simp only [hn] at hbound
  have hperm : t.allSerials.Perm (n :: s.allSerials) := by
    have hs := s.allSerials_perm y
    have ht := t.allSerials_perm y
    rw [hopen, hbeside] at ht
    rw [hfree] at hs
    exact ht.trans (hs.symm.cons n)
  refine ⟨hperm.nodup_iff.2 (List.nodup_cons.2 ⟨fun hmem => ?_, hnodup⟩), ?_⟩
  · exact absurd (hbound n hmem) (Nat.lt_irrefl n)
  · simp only [hc]
    intro k hk
    rcases List.mem_cons.1 (hperm.subset hk) with rfl | hk
    · exact Nat.lt_succ_self k
    · exact Nat.lt_succ_of_lt (hbound k hk)

/-! ### Open shots -/

/-- Another context with the serial of the shot a bay holds. -/
theorem SerialLaw.setSlot (h : SerialLaw s) {y : Bay} {sh sh' : Shot}
    (hget : s.slots.get y = some sh) (hserial : sh'.serial = sh.serial) :
    SerialLaw (s.setSlot y (some sh')) := by
  have hsame : ∀ z, serialOf (s.setSlot y (some sh')) z = serialOf s z := by
    intro z
    by_cases hz : y = z
    · subst hz
      simp [serialOf, hget, hserial]
    · simp [serialOf, hz]
  have hperm := (s.setSlot y (some sh')).allSerials_perm y
  simp only [State.serialsBeside, hsame, State.setSlot_history] at hperm
  exact h.of_perm rfl ((s.allSerials_perm y).trans hperm.symm)

theorem SerialLaw.mapShot (h : SerialLaw s) (y : Bay) {f : Shot → Shot}
    (hf : ∀ sh, (f sh).serial = sh.serial) : SerialLaw (s.mapShot y f) := by
  unfold State.mapShot
  cases hget : s.slots.get y with
  | none =>
    have hempty : s.setSlot y none = s := by
      obtain ⟨_, _, _, _, _, _, _, _, _, ⟨a, b⟩⟩ := s
      cases y with
      | a =>
        obtain rfl : a = none := hget
        rfl
      | b =>
        obtain rfl : b = none := hget
        rfl
    rw [Option.map_none, hempty]
    exact h
  | some sh => exact h.setSlot hget (hf sh)

theorem SerialLaw.addExc (h : SerialLaw s) (y : Bay) (e : Exc) : SerialLaw (s.addExc y e) :=
  h.mapShot y fun _ => rfl

@[simp] theorem Shot.enter_serial (sh : Shot) (st : Stage) (c : Timestamp) :
    (sh.enter st c).serial = sh.serial := by
  cases st <;> rfl

@[simp] theorem Shot.marked_serial (sh : Shot) (c : Timestamp) :
    (sh.marked c).serial = sh.serial := by
  unfold Shot.marked
  split <;> rfl

theorem SerialLaw.advance (h : SerialLaw s) (y : Bay) (st : Stage) : SerialLaw (s.advance y st) := by
  unfold State.advance
  split
  · exact h
  · next sh hget => exact h.setSlot hget (by simp)

/-! ### The close grant, the heat block and the permit block -/

theorem SerialLaw.withdrawClose (h : SerialLaw s) (c z : Nat) : SerialLaw (s.withdrawClose c z) := by
  obtain ⟨_, heq⟩ := s.withdrawClose_shape c z
  exact heq ▸ h

theorem SerialLaw.handFlags (h : SerialLaw s) (old : Zones Zone) : SerialLaw (s.handFlags old) := by
  obtain ⟨_, _, _, heq⟩ := s.handFlags_shape old
  exact heq ▸ h

theorem SerialLaw.rederiveZones (h : SerialLaw s) : SerialLaw s.rederiveZones := by
  obtain ⟨_, _, _, _, heq⟩ := s.rederiveZones_shape
  exact heq ▸ h

theorem SerialLaw.setMode (h : SerialLaw s) (m : HeatMode) : SerialLaw (s.setMode m) := by
  obtain ⟨_, _, _, _, heq⟩ := s.setMode_shape m
  exact heq ▸ h

theorem SerialLaw.wake (h : SerialLaw s) : SerialLaw s.wake := by
  obtain ⟨_, _, _, _, _, _, heq⟩ := s.wake_shape
  exact heq ▸ h

theorem SerialLaw.setPress (h : SerialLaw s) (x : PressState) : SerialLaw (s.setPress x) := by
  obtain ⟨_, heq⟩ := s.setPress_shape x
  exact heq ▸ h

theorem SerialLaw.setPosition (h : SerialLaw s) (x : Position) : SerialLaw (s.setPosition x) := by
  obtain ⟨_, _, _, _, heq⟩ := s.setPosition_shape x
  exact heq ▸ h

theorem SerialLaw.withdrawShuttle (h : SerialLaw s) (c : Nat) :
    SerialLaw (s.withdrawShuttle c) := by
  obtain ⟨_, _, _, _, _, _, heq⟩ := s.withdrawShuttle_shape c
  exact heq ▸ h

theorem SerialLaw.blockGrants (h : SerialLaw s) (sc : Scope) : SerialLaw (s.blockGrants sc) := by
  obtain ⟨_, _, _, _, _, _, _, heq⟩ := s.blockGrants_shape sc
  exact heq ▸ h

theorem SerialLaw.setPressSilent (h : SerialLaw s) (v : Bool) : SerialLaw (s.setPressSilent v) := by
  obtain ⟨_, heq⟩ := s.setPressSilent_shape v
  exact heq ▸ h

theorem SerialLaw.setPowerWarn (h : SerialLaw s) (v : Bool) : SerialLaw (s.setPowerWarn v) := by
  obtain ⟨_, heq⟩ := s.setPowerWarn_shape v
  exact heq ▸ h

theorem SerialLaw.setMouldCheck (h : SerialLaw s) (y : Bay) (v : Bool) :
    SerialLaw (s.setMouldCheck y v) := by
  obtain ⟨_, _, _, _, _, heq⟩ := s.setMouldCheck_shape y v
  exact heq ▸ h

theorem SerialLaw.promote (h : SerialLaw s) (r : Area) : SerialLaw (s.promote r) := by
  obtain ⟨_, _, heq⟩ := s.promote_shape r
  exact heq ▸ h

theorem SerialLaw.promoteBoth (h : SerialLaw s) : SerialLaw s.promoteBoth :=
  (h.promote .press).promote .load

theorem SerialLaw.settle (h : SerialLaw s) (before : State) : SerialLaw (s.settle before) := by
  obtain ⟨_, _, _, heq⟩ := s.settle_shape before
  exact heq ▸ h

/-! ### The history store and filing -/

/-- A record found by its slot number stands at that slot. -/
theorem lowestFrom_getElem? {f : Record → Bool} {l : List Record} {i j : Nat} {r : Record}
    (hlow : lowestFrom f i l = some (j, r)) : ∃ k, j = i + k ∧ l[k]? = some r := by
  induction l generalizing i j r with
  | nil => simp [lowestFrom] at hlow
  | cons x xs ih =>
    have later : ∀ {m q}, lowestFrom f (i + 1) xs = some (m, q) →
        ∃ k, m = i + k ∧ (x :: xs)[k]? = some q := by
      intro m q hm
      obtain ⟨k, rfl, hk⟩ := ih hm
      exact ⟨k + 1, by omega, by simpa using hk⟩
    unfold lowestFrom at hlow
    split at hlow
    · split at hlow
      · cases hlow
        exact ⟨0, by simp, by simp⟩
      · cases hlow
    · next m q hm =>
      split at hlow
      · cases hlow
        exact ⟨0, by simp, by simp⟩
      · cases hlow
        exact later hm

theorem findSerial_getElem? {n : Nat} {l : List Record} {i j : Nat} {r : Record}
    (hfind : findSerial n i l = some (j, r)) : ∃ k, j = i + k ∧ l[k]? = some r := by
  induction l generalizing i with
  | nil => simp [findSerial] at hfind
  | cons x xs ih =>
    unfold findSerial at hfind
    split at hfind
    · cases hfind
      exact ⟨0, by simp, by simp⟩
    · obtain ⟨k, rfl, hk⟩ := ih hfind
      exact ⟨k + 1, by omega, by simpa using hk⟩

theorem History.head_getElem? {h : History} {i : Nat} {r : Record} (hhead : h.head = some (i, r)) :
    h.slots[i]? = some r := by
  obtain ⟨k, rfl, hk⟩ := lowestFrom_getElem? hhead
  simpa using hk

theorem History.find_getElem? {h : History} {n i : Nat} {r : Record}
    (hfind : h.find n = some (i, r)) : h.slots[i]? = some r := by
  obtain ⟨k, rfl, hk⟩ := findSerial_getElem? hfind
  simpa using hk

theorem SerialLaw.judgeNearFull (h : SerialLaw s) : SerialLaw s.judgeNearFull := by
  obtain ⟨_, _, heq⟩ := s.judgeNearFull_shape
  exact heq ▸ h

/-- A record of the store written again with the serial it has. -/
theorem SerialLaw.put (h : SerialLaw s) {i : Nat} {r r' : Record}
    (hget : s.history.slots[i]? = some r) (hserial : r'.shot.serial = r.shot.serial)
    (hc : t.serial = s.serial) (hslots : t.slots = s.slots)
    (hstore : t.history.slots = s.history.slots.set i r') : SerialLaw t := by
  have hsame : (s.history.slots.set i r').map (fun r => r.shot.serial)
      = s.history.slots.map fun r => r.shot.serial := by
    obtain ⟨hi, rfl⟩ := List.getElem?_eq_some_iff.1 hget
    rw [List.map_set, hserial, ← List.getElem_map fun r : Record => r.shot.serial,
      List.set_getElem_self]
    simpa using hi
  refine h.of_perm hc (.of_eq ?_)
  unfold State.allSerials State.openSerials
  rw [hslots, hstore, hsame]

/-- An entry written over in a list leaves it, and the new one joins. -/
theorem cons_perm_getElem_cons_set {l : List Nat} {i : Nat} (hi : i < l.length) (n : Nat) :
    (n :: l).Perm (l[i] :: l.set i n) :=
  (List.set_set_perm (as := n :: l) (i := 0) (j := i + 1) (Nat.zero_lt_succ _)
    (Nat.succ_lt_succ hi)).symm

/-- R150: of the serials in the store, placing a record brings in that of its shot alone. -/
theorem History.place_serials (h : History) (sh : Shot) (o : ShotOutcome) :
    ∃ lost : List Nat, (sh.serial :: h.slots.map fun r => r.shot.serial).Perm
      (lost ++ (h.place sh o).slots.map fun r => r.shot.serial) := by
  unfold History.place
  dsimp only
  split
  · refine ⟨[], ?_⟩
    rw [List.map_append]
    exact (List.perm_append_singleton _ _).symm
  · split
    · next i x hlow =>
      obtain ⟨k, rfl, hk⟩ := lowestFrom_getElem? hlow
      obtain ⟨hlt, -⟩ := List.getElem?_eq_some_iff.1 hk
      simp only [History.put, List.map_set, Nat.zero_add]
      exact ⟨[_], cons_perm_getElem_cons_set (by rwa [List.length_map]) sh.serial⟩
    · exact ⟨[sh.serial], .refl _⟩

/-- R20, R21: a bay's shot leaves its slot and goes to the store. -/
theorem SerialLaw.placed (h : SerialLaw s) {y : Bay} {sh : Shot} {o : ShotOutcome}
    (hget : s.slots.get y = some sh) (hslots : t.slots = s.slots.set y none)
    (hc : t.serial = s.serial) (hstore : t.history.slots = (s.history.place sh o).slots) :
    SerialLaw t := by
  have hs := s.allSerials_perm y
  have ht := t.allSerials_perm y
  have hother : serialOf t y.other = serialOf s y.other := by
    unfold serialOf
    rw [hslots]
    cases y <;> rfl
  have hgone : serialOf t y = none := by
    unfold serialOf
    rw [hslots, PerBay.get_set, if_pos rfl, Option.map_none]
  have hthere : serialOf s y = some sh.serial := by
    unfold serialOf
    rw [hget, Option.map_some]
  simp only [State.serialsBeside, hother, hgone, hstore, Option.toList_none, List.nil_append] at ht
  simp only [State.serialsBeside, hthere, Option.toList_some, List.singleton_append] at hs
  obtain ⟨lost, hlost⟩ := s.history.place_serials sh o
  refine h.of_lost hc (lost := lost) (hs.trans ?_)
  refine List.perm_middle.symm.trans ((hlost.append_left _).trans ?_)
  exact (List.perm_append_comm_assoc _ _ _).trans (ht.symm.append_left lost)

theorem SerialLaw.raiseCounts (h : SerialLaw s) (y : Bay) (sh : Shot) :
    SerialLaw (s.raiseCounts y sh) := by
  obtain ⟨_, heq⟩ := s.raiseCounts_shape y sh
  exact heq ▸ h

theorem SerialLaw.withdrawIfDue (h : SerialLaw s) (wasDue : Bool) :
    SerialLaw (s.withdrawIfDue wasDue) := by
  unfold State.withdrawIfDue
  split
  · exact h.withdrawClose 7 0
  · exact h

theorem SerialLaw.completePark (h : SerialLaw s) : SerialLaw s.completePark := by
  unfold State.completePark
  split
  · refine SerialLaw.setMode (s := s.setPark false) ?_ .off
    exact h
  · exact h

theorem SerialLaw.fileShot (h : SerialLaw s) (y : Bay) (o : ShotOutcome) :
    SerialLaw (s.fileShot y o) := by
  unfold State.fileShot
  split
  · exact h
  · next sh hget =>
    have hplaced := (h.placed (o := o)
      (t := { (State.mapSlotUse { s.setSlot y none with cureMarks := s.cureMarks.set y none }
          sh.recipeSlot (· - 1)) with history := s.history.place sh o })
      hget rfl rfl rfl).judgeNearFull
    dsimp only
    refine SerialLaw.completePark ?_
    split
    · exact (hplaced.raiseCounts y sh).withdrawIfDue _
    · exact hplaced

/-! ### Weighing -/

theorem SerialLaw.weighLost (h : SerialLaw s) (a : Nat) : SerialLaw (s.weighLost a) := by
  unfold State.weighLost
  split <;> exact h

@[simp] theorem Shot.appendPiece_serial (sh : Shot) (net : Int) (c : Timestamp) :
    (sh.appendPiece net c).serial = sh.serial := by
  simp [Shot.appendPiece]

theorem SerialLaw.capture (h : SerialLaw s) (y : Bay) : SerialLaw (s.capture y) := by
  unfold State.capture
  dsimp only
  split
  · exact h
  · split
    · exact h
    · exact h.mapShot y fun sh => sh.appendPiece_serial _ _

theorem SerialLaw.judgeWeigh (h : SerialLaw s) : SerialLaw s.judgeWeigh := by
  unfold State.judgeWeigh
  split
  · split
    · exact h
    · exact h.capture _
    · exact h
  · exact h

/-! ### Demoulding -/

theorem SerialLaw.stopEject (h : SerialLaw s) (c : StopCause) : SerialLaw (s.stopEject c) := by
  unfold State.stopEject
  split <;> exact h

theorem SerialLaw.forceArrival (h : SerialLaw s) (y : Bay) (v : Nat) (overrange : Bool) :
    SerialLaw (s.forceArrival y v overrange) := by
  unfold State.forceArrival
  split
  · dsimp only
    split
    · exact (SerialLaw.stopEject (s := { s with eject.peak := max s.eject.peak v }) h
        .overforce).addExc y .ejectOverforce
    · exact h
  · exact h

theorem SerialLaw.forceLost (h : SerialLaw s) (y : Bay) (a : Nat) : SerialLaw (s.forceLost y a) := by
  unfold State.forceLost
  split
  · exact (h.stopEject .forceBlind).addExc y .forceBlind
  · exact h

theorem SerialLaw.recordPeak (h : SerialLaw s) (y : Bay) : SerialLaw (s.recordPeak y) :=
  h.mapShot y fun _ => rfl

theorem SerialLaw.judgeSticking (h : SerialLaw s) (y : Bay) : SerialLaw (s.judgeSticking y) := by
  unfold State.judgeSticking
  split
  · exact (h.addExc y .sticking).setMouldCheck y true
  · exact h

theorem SerialLaw.closeEject (h : SerialLaw s) (y : Bay) (expired : Bool) :
    SerialLaw (s.closeEject y expired) := by
  have hjudged := (h.recordPeak y).judgeSticking y
  unfold State.closeEject
  refine SerialLaw.advance ?_ y .ejected
  cases expired
  · exact hjudged
  · exact hjudged.addExc y .ejectTimeout

theorem SerialLaw.startEject (h : SerialLaw s) (y : Bay) (sh : Shot) :
    SerialLaw (s.startEject y sh) := by
  unfold State.startEject
  dsimp only
  split
  · exact SerialLaw.addExc h y .forceBlind
  · exact h

/-! ### The sensor link -/

theorem SerialLaw.handLoss (h : SerialLaw s) (n : Ix16) : SerialLaw (s.handLoss n) := by
  unfold State.handLoss
  split
  · exact h.weighLost _
  · exact h.forceLost .a _
  · exact h.forceLost .b _
  · exact h

theorem SerialLaw.nodeMiss (h : SerialLaw s) (n : Ix16) (r : MissReason) :
    SerialLaw (s.nodeMiss n r) := by
  unfold State.nodeMiss
  dsimp only
  split
  · refine SerialLaw.handLoss ?_ n
    exact h
  · exact h

theorem SerialLaw.loadArrival (h : SerialLaw s) (c : Chan) (x : LoadSample) :
    SerialLaw (s.loadArrival c x) := by
  have hqueued : SerialLaw { s with channels := s.channels.set c ((s.channels.get c).take x) } := h
  cases c with
  | w => exact hqueued.judgeWeigh
  | fa => exact hqueued.forceArrival .a _ _
  | fb => exact hqueued.forceArrival .b _ _

theorem SerialLaw.deliver (h : SerialLaw s) (n : Ix16) (d : NodeData) : SerialLaw (s.deliver n d) := by
  unfold State.deliver
  split
  · exact h
  · split
    · exact h.loadArrival _ _
    · exact h

theorem SerialLaw.nodeGood (h : SerialLaw s) (n : Ix16) (d : NodeData) :
    SerialLaw (s.nodeGood n d) := by
  unfold State.nodeGood
  dsimp only
  refine SerialLaw.deliver ?_ n d
  split <;> exact h

theorem SerialLaw.takeReply (h : SerialLaw s) (r : NodeReply) : SerialLaw (s.takeReply r) := by
  unfold State.takeReply
  split
  · exact h
  · next n _ =>
    cases hmiss : s.replyMiss n r with
    | some m => exact h.nodeMiss n m
    | none => exact h.nodeGood n r.data

theorem SerialLaw.missReply (h : SerialLaw s) : SerialLaw s.missReply := by
  unfold State.missReply
  split
  · exact h
  · exact h.nodeMiss _ .timeout

/-! ### Events, requests and frames -/

theorem SerialLaw.event (h : SerialLaw s) {f : State → State} (hf : SerialLaw (f s)) :
    SerialLaw (s.event f) := by
  unfold State.event
  split
  · exact hf.settle s
  · exact h

/-- R178, step 4: a request keeps the law where its owner's act does. -/
theorem SerialLaw.serve (h : SerialLaw s) {p : PortId} {i : Instr} {act : State → State × Reply}
    (hact : SerialLaw (act s).1) : SerialLaw (s.serve p i act) := by
  refine h.event ?_
  split
  · exact hact
  · exact h

theorem SerialLaw.raiseFlag (h : SerialLaw s) (p : PortId) (n : FlagName) :
    SerialLaw (s.raiseFlag p n) := by
  obtain ⟨_, heq⟩ := s.raiseFlag_shape p n
  exact heq ▸ h

theorem SerialLaw.badFrame (h : SerialLaw s) (p : PortId) (k : ReplyKind) (n : FlagName) :
    SerialLaw (s.badFrame p k n) := by
  obtain ⟨_, heq⟩ := s.badFrame_shape p k n
  exact heq ▸ h

theorem SerialLaw.lateFrame (h : SerialLaw s) (p : PortId) (k : ReplyKind) :
    SerialLaw (s.lateFrame p k) := by
  obtain ⟨_, heq⟩ := s.lateFrame_shape p k
  exact heq ▸ h

theorem SerialLaw.consume (h : SerialLaw s) (p : PortId) (k : ReplyKind) :
    SerialLaw (s.consume p k) := by
  unfold State.consume
  split <;> exact h

theorem SerialLaw.portValid (h : SerialLaw s) (p : PortId) : SerialLaw (s.portValid p) := by
  unfold State.portValid
  dsimp only
  split
  · refine SerialLaw.setPressSilent ?_ false
    exact h
  · exact h

theorem SerialLaw.takeRequest (h : SerialLaw s) (p : PortId) (code : Byte) (params : List Byte) :
    SerialLaw (s.takeRequest p code params) := by
  unfold State.takeRequest
  split
  · exact h.raiseFlag p .unknown
  · split
    · exact h.raiseFlag p .permission
    · split <;> exact h

theorem SerialLaw.endFrame (h : SerialLaw s) (p : PortId) (k : ReplyKind) (bytes : List Byte)
    (spare : Fin 8) : SerialLaw (s.endFrame p k bytes spare) := by
  have hconsumed := h.consume p k
  unfold State.endFrame
  dsimp only
  split
  · exact hconsumed.badFrame p k .length
  · exact hconsumed.badFrame p k .check
  · split
    · exact hconsumed.portValid p
    · exact (hconsumed.portValid p).takeRequest p _ _

theorem SerialLaw.frameEnds (h : SerialLaw s) (p : PortId) (bytes : List Byte) (spare : Fin 8) :
    SerialLaw (s.frameEnds p bytes spare) := by
  unfold State.frameEnds
  split
  · exact h
  · have hfree : SerialLaw (s.setFrame p none) := h
    dsimp only
    split
    · exact h
    · refine hfree.event ?_
      split
      · exact hfree.lateFrame p _
      · exact hfree.endFrame p _ bytes spare

theorem SerialLaw.frameExpires (h : SerialLaw s) (p : PortId) (clocked : Bool) :
    SerialLaw (s.frameExpires p clocked) := by
  unfold State.frameExpires
  split
  · exact h
  · split
    · exact h
    · refine h.event ?_
      cases clocked
      · exact h
      · exact h.lateFrame p _

theorem SerialLaw.returnResult (h : SerialLaw s) (p : PortId) : SerialLaw (s.returnResult p) := by
  unfold State.returnResult
  split <;> exact h

/-! ### A port going LOST -/

theorem SerialLaw.silencePressed (h : SerialLaw s) (y : Bay) : SerialLaw (s.silencePressed y) := by
  unfold State.silencePressed
  split
  · exact h.addExc y .stationSilent
  · exact h

theorem SerialLaw.pressLost (h : SerialLaw s) : SerialLaw s.pressLost := by
  have hpress := ((h.withdrawClose 5 0).withdrawShuttle 2).setPress .unknown
  exact (((hpress.silencePressed .a).silencePressed .b).setPressSilent true).promoteBoth

theorem SerialLaw.loaderLost (h : SerialLaw s) : SerialLaw s.loaderLost := by
  unfold State.loaderLost
  split
  · exact h
  · split <;> exact h
  · exact h

theorem SerialLaw.cancelWait (h : SerialLaw s) (u : AreaUser) (r : Area) :
    SerialLaw (s.cancelWait u r) := by
  unfold State.cancelWait
  dsimp only
  split <;> exact h

theorem SerialLaw.cancelWaits (h : SerialLaw s) (u : AreaUser) : SerialLaw (s.cancelWaits u) :=
  (h.cancelWait u .press).cancelWait u .load

theorem SerialLaw.extractLost (h : SerialLaw s) : SerialLaw s.extractLost := by
  unfold State.extractLost
  split
  · split
    · exact (h.addExc _ .stationSilent).stopEject .stationSilent
    · exact h
  · exact h

theorem SerialLaw.stationLost (h : SerialLaw s) (r : Role) : SerialLaw (s.stationLost r) := by
  cases r with
  | press => exact h.pressLost
  | loader => exact h.loaderLost.cancelWaits .loader
  | extract => exact (h.cancelWaits .extract).extractLost
  | line => exact h

theorem SerialLaw.silenceExpires (h : SerialLaw s) (p : PortId) : SerialLaw (s.silenceExpires p) := by
  unfold State.silenceExpires
  dsimp only
  split
  · refine SerialLaw.stationLost ?_ _
    exact h
  · exact h

/-! ### The cure step and the heat period -/

theorem SerialLaw.makeCured (h : SerialLaw s) (y : Bay) (d : Nat) (byTime : Bool) :
    SerialLaw (s.makeCured y d byTime) :=
  h.advance y .cured

theorem SerialLaw.judgeCured (h : SerialLaw s) (y : Bay) (sh : Shot) (r : Recipe) :
    SerialLaw (s.judgeCured y sh r) := by
  unfold State.judgeCured
  split
  · exact h.makeCured y _ false
  · split
    · exact (h.addExc y .undercure).makeCured y _ true
    · exact h

theorem SerialLaw.judgeOverstay (h : SerialLaw s) (y : Bay) (sh : Shot) (r : Recipe) :
    SerialLaw (s.judgeOverstay y sh r) := by
  unfold State.judgeOverstay
  split
  · split
    · exact h.addExc y .overstay
    · exact h
  · exact h

/-- R82 to R84: the judgements on the context that a cure step leaves. -/
theorem SerialLaw.judgedStep (h : SerialLaw s) {y : Bay} {sh sh' : Shot} {r : Recipe}
    (hget : s.slots.get y = some sh) (hserial : sh'.serial = sh.serial) :
    SerialLaw (if sh.stage = .closed then (s.setSlot y (some sh')).judgeCured y sh' r
      else (s.setSlot y (some sh')).judgeOverstay y sh' r) := by
  have hstepped := h.setSlot hget hserial
  split
  · exact hstepped.judgeCured y sh' r
  · exact hstepped.judgeOverstay y sh' r

theorem SerialLaw.cureStep (h : SerialLaw s) (y : Bay) : SerialLaw (s.cureStep y) := by
  unfold State.cureStep
  split
  · exact h
  · next sh hget =>
    split
    · split
      · exact h
      · dsimp only
        refine h.judgedStep hget ?_
        split <;> rfl
    · exact h

theorem SerialLaw.takeUpNotices (h : SerialLaw s) (old : State) (zs : List ZoneId) :
    SerialLaw (s.takeUpNotices old zs) := by
  induction zs generalizing s with
  | nil => exact h
  | cons z zs ih =>
    refine ih ?_
    split
    · exact h
    · split <;> exact h

theorem SerialLaw.clearFresh (h : SerialLaw s) (zs : List ZoneId) : SerialLaw (s.clearFresh zs) := by
  induction zs generalizing s with
  | nil => exact h
  | cons z zs ih =>
    unfold State.clearFresh
    split
    · exact ih h
    · exact ih h

theorem SerialLaw.takeUpStage (h : SerialLaw s) : SerialLaw s.takeUpStage := by
  refine SerialLaw.clearFresh ?_ ZoneId.all
  exact h.takeUpNotices s ZoneId.all

theorem SerialLaw.rampStageAll (h : SerialLaw s) (before : State) :
    SerialLaw (s.rampStageAll before) := h

theorem SerialLaw.piStageAll (h : SerialLaw s) : SerialLaw s.piStageAll := h

theorem SerialLaw.arbitrateAll (h : SerialLaw s) : SerialLaw s.arbitrateAll := h

theorem SerialLaw.notePowerLimited (h : SerialLaw s) : SerialLaw s.notePowerLimited := by
  unfold State.notePowerLimited
  split
  · exact h
  · split
    · exact h.addExc _ .powerLimited
    · exact h

theorem SerialLaw.heatStages (h : SerialLaw s) : SerialLaw s.heatStages :=
  (h.takeUpStage.rampStageAll s).piStageAll.arbitrateAll.notePowerLimited

theorem SerialLaw.idleTick (h : SerialLaw s) : SerialLaw s.idleTick := by
  unfold State.idleTick
  split <;> exact h

theorem SerialLaw.heatPeriod (h : SerialLaw s) : SerialLaw s.heatPeriod :=
  (((h.heatStages.cureStep .a).cureStep .b).handFlags _).idleTick

theorem SerialLaw.idleExpires (h : SerialLaw s) : SerialLaw s.idleExpires := by
  unfold State.idleExpires
  split
  · refine SerialLaw.setMode ?_ .setbackAuto
    exact h
  · exact h

/-! ### Timers of the weigh and demould blocks -/

theorem SerialLaw.beginRound (h : SerialLaw s) : SerialLaw s.beginRound := by
  unfold State.beginRound
  split <;> exact h

theorem SerialLaw.weighExpires (h : SerialLaw s) : SerialLaw s.weighExpires := by
  unfold State.weighExpires
  split
  · exact h
  · split <;> exact h

theorem SerialLaw.ejectExpires (h : SerialLaw s) : SerialLaw s.ejectExpires := by
  unfold State.ejectExpires
  split
  · split
    · refine SerialLaw.closeEject ?_ _ true
      exact h
    · exact h
  · exact h

/-! ### The port block's requests -/

theorem SerialLaw.readNoticeAct (h : SerialLaw s) (p : PortId) : SerialLaw (readNoticeAct p s).1 := by
  unfold Machine.readNoticeAct
  dsimp only
  split <;> exact h

theorem SerialLaw.subscribeAct (h : SerialLaw s) (p : PortId) (level : Byte) (codes : List Byte) :
    SerialLaw (subscribeAct p level codes s).1 := by
  unfold Machine.subscribeAct
  split
  · exact h
  · split <;> exact h

theorem SerialLaw.portStatusAct (h : SerialLaw s) (p : PortId) (named : Option (Byte × List Byte)) :
    SerialLaw (portStatusAct p named s).1 := by
  unfold Machine.portStatusAct
  split
  · exact h
  · split
    · split
      · exact h.raiseFlag p .permission
      · exact h
    · exact h

/-! ### The permit block's requests -/

theorem SerialLaw.holdAddAct (h : SerialLaw s) (p : PortId) (scope reason : Byte) :
    SerialLaw (holdAddAct p scope reason s).1 := by
  have hadd : ∀ e, SerialLaw (s.addHold e) := by
    intro e
    refine SerialLaw.blockGrants ?_ e.scope
    exact h
  unfold Machine.holdAddAct
  split
  · exact h
  · split
    · exact h
    · dsimp only
      split
      · exact h
      · split
        · exact h
        · exact hadd _

theorem SerialLaw.removeHolds (h : SerialLaw s) (f : Hold → Bool) : SerialLaw (s.removeHolds f) := by
  unfold State.removeHolds
  dsimp only
  split <;> exact h

theorem SerialLaw.holdRemoveAct (h : SerialLaw s) (p : PortId) (scope reason : Byte) :
    SerialLaw (holdRemoveAct p scope reason s).1 := by
  unfold Machine.holdRemoveAct
  split
  · exact h
  · split
    · exact h
    · exact h.removeHolds _

theorem SerialLaw.closeShot (h : SerialLaw s) : SerialLaw s.closeShot := by
  unfold State.closeShot
  split
  · exact h
  · refine SerialLaw.advance ?_ _ .closed
    split
    · exact h
    · exact h.addExc _ .closedUnpermitted

theorem SerialLaw.pressForce (h : SerialLaw s) (force : Nat) (y : Bay) :
    SerialLaw (s.pressForce force y) := by
  unfold State.pressForce
  split
  · exact h
  · next sh hget =>
    split
    · exact h.setSlot hget rfl
    · exact h

theorem SerialLaw.openShot (h : SerialLaw s) (y : Bay) : SerialLaw (s.openShot y) := by
  unfold State.openShot
  split
  · exact (h.addExc y .earlyOpen).advance y .opened
  · exact h.advance y .opened
  all_goals exact h

/-- R109: the seven steps of a press report, in their order. -/
theorem SerialLaw.reportPress (h : SerialLaw s) (x : PressState) (force : Option Nat) :
    SerialLaw (s.reportPress x force) := by
  have h1 := h.setPress x
  have h2 := SerialLaw.ite (s.permit.press = .open ∧ x ≠ .open) (h1.withdrawShuttle 3) h1
  have h3 := SerialLaw.ite (x = .opening) (h2.withdrawClose 6 0) h2
  have h4 := SerialLaw.ite (x = .closed) h3.closeShot h3
  unfold State.reportPress
  cases force with
  | none => exact (SerialLaw.ite (x = .open) ((h4.openShot .a).openShot .b) h4).promoteBoth
  | some f =>
    have h5 := (h4.pressForce f .a).pressForce f .b
    exact (SerialLaw.ite (x = .open) ((h5.openShot .a).openShot .b) h5).promoteBoth

theorem SerialLaw.reportPressAct (h : SerialLaw s) (state : Byte) (force : Option (BitVec 16)) :
    SerialLaw (reportPressAct state force s).1 := by
  unfold Machine.reportPressAct
  split
  · exact h
  · exact h.reportPress _ _

theorem SerialLaw.closeRequestAct (h : SerialLaw s) : SerialLaw (closeRequestAct s).1 := by
  unfold Machine.closeRequestAct
  split
  · exact h
  · split <;> exact h

theorem SerialLaw.requestShuttle (h : SerialLaw s) (y : Bay) : SerialLaw (s.requestShuttle y).1 := by
  unfold State.requestShuttle
  split
  · exact h
  · refine SerialLaw.setPosition ?_ .moving
    exact h

theorem SerialLaw.shuttleRequestAct (h : SerialLaw s) (target : Byte) :
    SerialLaw (shuttleRequestAct target s).1 := by
  unfold Machine.shuttleRequestAct
  split
  · exact h
  · exact h.wake.requestShuttle _

theorem SerialLaw.shuttleDoneAct (h : SerialLaw s) (position : Byte) :
    SerialLaw (shuttleDoneAct position s).1 := by
  unfold Machine.shuttleDoneAct
  split
  · exact h
  · split
    · exact h
    · refine SerialLaw.promoteBoth (SerialLaw.setPosition ?_ _)
      exact h

theorem SerialLaw.enterArea (h : SerialLaw s) (u : AreaUser) (r : Area) :
    SerialLaw (s.enterArea u r).1 := by
  unfold State.enterArea
  dsimp only
  repeat' split
  all_goals exact h

theorem SerialLaw.areaEnterAct (h : SerialLaw s) (p : PortId) (area : Byte) :
    SerialLaw (areaEnterAct p area s).1 := by
  unfold Machine.areaEnterAct
  split
  · exact h
  · exact h
  · exact h.wake.enterArea _ _

theorem SerialLaw.releaseArea (h : SerialLaw s) (u : AreaUser) (r : Area) :
    SerialLaw (s.releaseArea u r) := by
  unfold State.releaseArea
  dsimp only
  split
  · refine SerialLaw.stopEject ?_ .areaReleased
    exact h
  · exact h

theorem SerialLaw.leaveArea (h : SerialLaw s) (u : AreaUser) (r : Area) :
    SerialLaw (s.leaveArea u r).1 := by
  unfold State.leaveArea
  dsimp only
  split
  · exact (h.releaseArea u r).promote r
  · split <;> exact h

theorem SerialLaw.areaLeaveAct (h : SerialLaw s) (p : PortId) (area : Byte) :
    SerialLaw (areaLeaveAct p area s).1 := by
  unfold Machine.areaLeaveAct
  split
  · exact h
  · exact h
  · exact h.leaveArea _ _

theorem SerialLaw.forceLeaveAct (h : SerialLaw s) (area : Byte) :
    SerialLaw (forceLeaveAct area s).1 := by
  unfold Machine.forceLeaveAct
  split
  · exact h
  · split
    · exact h
    · refine SerialLaw.promote ?_ _
      exact h.releaseArea _ _

/-! ### The LOADER's requests -/

/-- R14, R15: a CHARGE BEGIN that passes its checks names the counter's value and an empty bay. -/
theorem State.judgeCharge_ok {y : Bay} {n : Nat} {i : Ix16} {r : Recipe}
    (hok : s.judgeCharge y = .ok (n, i, r)) : s.serial = some n ∧ serialOf s y = none := by
  unfold State.judgeCharge at hok
  split at hok
  · cases hok
  · next hfree =>
    split at hok
    · cases hok
    · split at hok
      · split at hok
        · cases hok
        · next m hm =>
          repeat' split at hok
          all_goals cases hok
          exact ⟨hm, by simpa [serialOf] using hfree⟩
      · cases hok

theorem SerialLaw.openCharge (h : SerialLaw s) {y : Bay} {n : Nat} (i : Ix16) (r : Recipe)
    (hn : s.serial = some n) (hfree : serialOf s y = none) : SerialLaw (s.openCharge y n i r) := by
  refine h.opened (y := y) hn hfree ?_ ?_ rfl
  · simp [State.openCharge, serialOf, Shot.opening]
  · cases y <;> rfl

theorem SerialLaw.chargeBeginAct (h : SerialLaw s) (bay : Byte) :
    SerialLaw (chargeBeginAct bay s).1 := by
  unfold Machine.chargeBeginAct
  split
  · exact h
  · split
    · exact h.wake
    · next hok =>
      obtain ⟨hn, hfree⟩ := State.judgeCharge_ok hok
      exact h.wake.openCharge _ _ hn hfree

theorem SerialLaw.endDead (h : SerialLaw s) : SerialLaw s.endDead := by
  unfold State.endDead
  split
  · exact h.weighLost _
  · exact h

theorem SerialLaw.weighPieceAct (h : SerialLaw s) (bay : Byte) :
    SerialLaw (weighPieceAct bay s).1 := by
  unfold Machine.weighPieceAct
  split
  · exact h
  · split
    · exact h
    · split
      · exact h
      · split
        · exact h
        · refine SerialLaw.endDead ?_
          exact h

theorem SerialLaw.weighCancelAct (h : SerialLaw s) : SerialLaw (weighCancelAct s).1 := by
  unfold Machine.weighCancelAct
  split <;> exact h

theorem SerialLaw.tareAct (h : SerialLaw s) (p : PortId) : SerialLaw (tareAct p s).1 := by
  unfold Machine.tareAct
  split
  · exact h
  · refine SerialLaw.endDead ?_
    exact h

theorem State.chargingShot_some {y : Bay} {sh : Shot} (hsome : s.chargingShot y = some sh) :
    s.slots.get y = some sh := by
  unfold State.chargingShot at hsome
  split at hsome
  · next hget =>
    split at hsome
    · cases hsome
      exact hget
    · cases hsome
  · cases hsome

/-- R104 to R106: the shot whose list is judged is the bay's. -/
theorem State.judgeList_ok {y : Bay} {sh : Shot} {x : Piece}
    (hok : s.judgeList y = .ok (sh, x)) : s.slots.get y = some sh := by
  unfold State.judgeList at hok
  split at hok
  · cases hok
  · next hcharging =>
    repeat' split at hok
    all_goals cases hok
    exact State.chargingShot_some hcharging

theorem SerialLaw.removePieceAct (h : SerialLaw s) (bay : Byte) :
    SerialLaw (removePieceAct bay s).1 := by
  unfold Machine.removePieceAct
  split
  · exact h
  · split
    · exact h
    · next hok => exact h.setSlot (State.judgeList_ok hok) rfl

theorem SerialLaw.discardChargeAct (h : SerialLaw s) (bay : Byte) :
    SerialLaw (discardChargeAct bay s).1 := by
  unfold Machine.discardChargeAct
  split
  · exact h
  · split
    · exact h
    · next hok => exact h.setSlot (State.judgeList_ok hok) rfl

theorem SerialLaw.finishCharge (h : SerialLaw s) (y : Bay) (sh : Shot) :
    SerialLaw (s.finishCharge y sh).1 := by
  unfold State.finishCharge
  split
  · exact h
  · split
    · exact h
    · split
      · exact h
      · exact h.advance y .charged

theorem SerialLaw.chargeDoneAct (h : SerialLaw s) (bay : Byte) :
    SerialLaw (chargeDoneAct bay s).1 := by
  unfold Machine.chargeDoneAct
  split
  · exact h
  · split
    · exact h
    · exact h.finishCharge _ _

/-! ### The take-out unit's requests -/

theorem SerialLaw.ejectBeginAct (h : SerialLaw s) (bay : Byte) :
    SerialLaw (ejectBeginAct bay s).1 := by
  unfold Machine.ejectBeginAct
  split
  · exact h
  · split
    · exact h
    · split
      · exact h
      · split
        · exact h
        · split
          · exact h
          · split
            · exact h
            · exact h.startEject _ _

theorem SerialLaw.ejectEndAct (h : SerialLaw s) (bay : Byte) : SerialLaw (ejectEndAct bay s).1 := by
  unfold Machine.ejectEndAct
  split
  · exact h
  · split
    · exact h.closeEject _ false
    · exact h

theorem SerialLaw.noteDamage (h : SerialLaw s) (y : Bay) (damaged : Bool) :
    SerialLaw (s.noteDamage y damaged) := by
  unfold State.noteDamage
  split
  · exact h.addExc y .partDamaged
  · exact h

theorem SerialLaw.partTakenAct (h : SerialLaw s) (bay condition : Byte) :
    SerialLaw (partTakenAct bay condition s).1 := by
  unfold Machine.partTakenAct
  split
  · split
    · exact h
    · split
      · exact h
      · exact (h.noteDamage _ _).fileShot _ .completed
  · exact h

/-! ### The requests on recipes and moulds -/

theorem SerialLaw.recipeWriteAct (h : SerialLaw s) (slot : Byte) (fields : RawRecipe) :
    SerialLaw (recipeWriteAct slot fields s).1 := by
  unfold Machine.recipeWriteAct
  split
  · exact h
  · split
    · exact h
    · split
      · exact h
      · refine SerialLaw.rederiveZones ?_
        exact h

theorem SerialLaw.recipeEraseAct (h : SerialLaw s) (slot : Byte) :
    SerialLaw (recipeEraseAct slot s).1 := by
  unfold Machine.recipeEraseAct
  split
  · exact h
  · dsimp only
    repeat' split
    all_goals exact h

theorem SerialLaw.bindBay (h : SerialLaw s) (y : Bay) (mould : Nat) (i : Ix16) :
    SerialLaw (s.bindBay y mould i) := by
  unfold State.bindBay
  dsimp only
  refine SerialLaw.rederiveZones ?_
  split
  · exact h
  · refine SerialLaw.setMouldCheck ?_ y false
    exact h

theorem SerialLaw.bayBindAct (h : SerialLaw s) (bay : Byte) (mould : BitVec 16) (slot : Byte) :
    SerialLaw (bayBindAct bay mould slot s).1 := by
  unfold Machine.bayBindAct
  split
  · split
    · exact h
    · split
      · exact h
      · exact h.bindBay _ _ _
  · exact h

theorem SerialLaw.bayUnbindAct (h : SerialLaw s) (bay : Byte) : SerialLaw (bayUnbindAct bay s).1 := by
  unfold Machine.bayUnbindAct
  split
  · exact h
  · split
    · exact h
    · split
      · exact h
      · refine SerialLaw.rederiveZones ?_
        exact h

theorem SerialLaw.releaseAppliedAct (h : SerialLaw s) (p : PortId) (target : Byte) :
    SerialLaw (releaseAppliedAct p target s).1 := by
  unfold Machine.releaseAppliedAct
  repeat' split
  all_goals exact h

theorem SerialLaw.mouldCheckedAct (h : SerialLaw s) (bay : Byte) :
    SerialLaw (mouldCheckedAct bay s).1 := by
  unfold Machine.mouldCheckedAct
  split
  · exact h
  · exact h.setMouldCheck _ false

/-! ### LINE's requests on shots and on the store -/

theorem SerialLaw.abortShot (h : SerialLaw s) (y : Bay) : SerialLaw (s.abortShot y) := by
  have hweigh : SerialLaw (s.abortWeigh y) := by
    unfold State.abortWeigh
    split <;> exact h
  have hclose : SerialLaw ((s.abortWeigh y).abortClose y) := by
    obtain ⟨_, heq⟩ := (s.abortWeigh y).abortClose_shape y
    exact heq ▸ hweigh
  have heject : SerialLaw (((s.abortWeigh y).abortClose y).abortEject y) := by
    unfold State.abortEject
    split
    · exact hclose.recordPeak y
    · exact hclose
  exact heject.addExc y .aborted

theorem SerialLaw.shotAbortAct (h : SerialLaw s) (bay : Byte) : SerialLaw (shotAbortAct bay s).1 := by
  unfold Machine.shotAbortAct
  split
  · exact h
  · split
    · exact h
    · exact (h.abortShot _).fileShot _ .aborted

/-- R12: the counter is set only while no serial has been given. -/
theorem SerialLaw.serialBaseAct (h : SerialLaw s) (value : BitVec 32) :
    SerialLaw (serialBaseAct value s).1 := by
  unfold Machine.serialBaseAct
  split
  · next hset =>
    obtain ⟨hunset, -, -⟩ := hset
    obtain ⟨hnodup, hbound⟩ := h
    simp only [hunset] at hbound
    refine ⟨hnodup, fun k hk => ?_⟩
    exact absurd (hbound ▸ hk : k ∈ []) List.not_mem_nil
  · exact h

theorem SerialLaw.historyAckAct (h : SerialLaw s) (serial : BitVec 32) :
    SerialLaw (historyAckAct serial s).1 := by
  unfold Machine.historyAckAct
  split
  · exact h
  · next i r hhead =>
    split
    · exact h
    · refine SerialLaw.judgeNearFull ?_
      exact h.put (r' := r.taken) (History.head_getElem? hhead) rfl rfl rfl rfl

theorem SerialLaw.dispose (h : SerialLaw s) {i : Nat} {r : Record} (d : Disposition)
    (hget : s.history.slots[i]? = some r) : SerialLaw (s.dispose i r d) := by
  unfold State.dispose
  dsimp only
  split
  · refine SerialLaw.judgeNearFull ?_
    exact h.put (r' := r.disposed d s.stamp) hget rfl rfl rfl rfl
  · exact h.put (r' := r.disposed d s.stamp) hget rfl rfl rfl rfl

theorem SerialLaw.dispositionSetAct (h : SerialLaw s) (serial : BitVec 32) (disposition : Byte) :
    SerialLaw (dispositionSetAct serial disposition s).1 := by
  unfold Machine.dispositionSetAct
  split
  · exact h
  · next d _ =>
    split
    · exact h
    · next i r hfind =>
      split
      · exact h
      · split
        · exact h
        · split
          · exact h
          · exact h.dispose d (History.find_getElem? hfind)

/-! ### The heat block's requests -/

theorem SerialLaw.heatModeAct (h : SerialLaw s) (code : Byte) : SerialLaw (heatModeAct code s).1 := by
  have hcancel : SerialLaw s.cancelPark := by
    unfold State.cancelPark
    split <;> exact h
  unfold Machine.heatModeAct
  split
  · exact h
  · exact hcancel.setMode _

theorem SerialLaw.parkAct (h : SerialLaw s) : SerialLaw (parkAct s).1 := by
  unfold Machine.parkAct
  split
  · exact h
  · split
    · exact h.setMode .off
    · exact h

theorem SerialLaw.zoneAct (h : SerialLaw s) (zone : Byte) (v : Bool) :
    SerialLaw (zoneAct zone v s).1 := by
  refine SerialLaw.rederiveZones ?_
  exact h

/-! ### Supplies and starts -/

theorem SerialLaw.restartTimer (h : SerialLaw s) (old : Cfg) (p : PortId) :
    SerialLaw (s.restartTimer old p) := by
  unfold State.restartTimer
  dsimp only
  split <;> exact h

theorem SerialLaw.storeItem (h : SerialLaw s) (i : Item) : SerialLaw (s.storeItem i) := by
  unfold State.storeItem
  dsimp only
  refine SerialLaw.restartTimer (SerialLaw.restartTimer (SerialLaw.restartTimer
    (SerialLaw.restartTimer ?_ _ .n0) _ .n1) _ .n2) _ .n3
  split
  · split <;> exact h
  · refine SerialLaw.rederiveZones ?_
    split <;> exact h

theorem SerialLaw.configSetAct (h : SerialLaw s) (tag : Byte) (data : List Byte) :
    SerialLaw (configSetAct tag data s).1 := by
  unfold Machine.configSetAct
  split
  · exact h
  · split
    · exact h
    · exact h.storeItem _

theorem SerialLaw.enterWarning (h : SerialLaw s) : SerialLaw s.enterWarning := by
  unfold State.enterWarning
  split
  · refine SerialLaw.blockGrants (SerialLaw.setPowerWarn ?_ true) .cell
    exact h
  · exact h

theorem SerialLaw.leaveWarning (h : SerialLaw s) : SerialLaw s.leaveWarning := by
  unfold State.leaveWarning
  split
  · refine SerialLaw.setPowerWarn ?_ false
    exact h
  · exact h

theorem SerialLaw.startFilings (h : SerialLaw s) (k : StartKind) : SerialLaw (s.startFilings k) :=
  (((h.addExc .a _).fileShot .a .interrupted).addExc .b _).fileShot .b .interrupted

theorem SerialLaw.deriveNearFull (h : SerialLaw s) : SerialLaw s.deriveNearFull := by
  unfold State.deriveNearFull
  split <;> exact h

theorem SerialLaw.startNotices (h : SerialLaw s) (k : StartKind) : SerialLaw (s.startNotices k) := by
  unfold State.startNotices
  dsimp only
  refine SerialLaw.deriveNearFull ?_
  repeat' split
  all_goals exact h

/-- R193, R20: a warm start files the open shots; a cold start clears counter, shots and store. -/
theorem SerialLaw.endStart (h : SerialLaw s) (k : StartKind) (image : List Byte) :
    SerialLaw (s.endStart k image) := by
  have hsetUp : SerialLaw (s.setUpBlocks (loadImage image)) := h
  have hcold : SerialLaw (s.setUpBlocks (loadImage image)).coldRetained := .of_nil rfl rfl
  refine SerialLaw.startNotices (s := State.startSupply _) (SerialLaw.rederiveZones ?_) k
  exact SerialLaw.ite (k = .cold) hcold (hsetUp.startFilings k)

/-! ### The commands -/

/-- R13: every command keeps the law. -/
theorem SerialLaw.exec (h : SerialLaw s) (c : Instr) :
    ∃ u, exec c s = .next u ∧ SerialLaw u := by
  cases c with
  | nop | identify | readShot | readBay | readZone | readCell | recipeRead | historyFind | readNode
  | historyNext | clockSet => exact ⟨_, rfl, h.serve h⟩
  | readNotice p => exact ⟨_, rfl, h.serve (h.readNoticeAct p)⟩
  | subscribe p level codes => exact ⟨_, rfl, h.serve (h.subscribeAct p level codes)⟩
  | portStatus p named => exact ⟨_, rfl, h.serve (h.portStatusAct p named)⟩
  | holdAdd p scope reason => exact ⟨_, rfl, h.serve (h.holdAddAct p scope reason)⟩
  | holdRemove p scope reason => exact ⟨_, rfl, h.serve (h.holdRemoveAct p scope reason)⟩
  | holdClear p => exact ⟨_, rfl, h.serve (h.removeHolds _)⟩
  | reportPress p state force => exact ⟨_, rfl, h.serve (h.reportPressAct state force)⟩
  | closeRequest p => exact ⟨_, rfl, h.serve h.closeRequestAct⟩
  | shuttleRequest p target => exact ⟨_, rfl, h.serve (h.shuttleRequestAct target)⟩
  | shuttleDone p position => exact ⟨_, rfl, h.serve (h.shuttleDoneAct position)⟩
  | areaEnter p area => exact ⟨_, rfl, h.serve (h.areaEnterAct p area)⟩
  | areaLeave p area => exact ⟨_, rfl, h.serve (h.areaLeaveAct p area)⟩
  | forceLeave p area => exact ⟨_, rfl, h.serve (h.forceLeaveAct area)⟩
  | chargeBegin p bay => exact ⟨_, rfl, h.serve (h.chargeBeginAct bay)⟩
  | weighPiece p bay => exact ⟨_, rfl, h.serve (h.weighPieceAct bay)⟩
  | weighCancel p => exact ⟨_, rfl, h.serve h.weighCancelAct⟩
  | removePiece p bay => exact ⟨_, rfl, h.serve (h.removePieceAct bay)⟩
  | discardCharge p bay => exact ⟨_, rfl, h.serve (h.discardChargeAct bay)⟩
  | chargeDone p bay => exact ⟨_, rfl, h.serve (h.chargeDoneAct bay)⟩
  | tare p => exact ⟨_, rfl, h.serve (h.tareAct p)⟩
  | ejectBegin p bay => exact ⟨_, rfl, h.serve (h.ejectBeginAct bay)⟩
  | ejectEnd p bay => exact ⟨_, rfl, h.serve (h.ejectEndAct bay)⟩
  | partTaken p bay condition => exact ⟨_, rfl, h.serve (h.partTakenAct bay condition)⟩
  | releaseApplied p target => exact ⟨_, rfl, h.serve (h.releaseAppliedAct p target)⟩
  | recipeWrite p slot fields => exact ⟨_, rfl, h.serve (h.recipeWriteAct slot fields)⟩
  | recipeErase p slot => exact ⟨_, rfl, h.serve (h.recipeEraseAct slot)⟩
  | bayBind p bay mould slot => exact ⟨_, rfl, h.serve (h.bayBindAct bay mould slot)⟩
  | bayUnbind p bay => exact ⟨_, rfl, h.serve (h.bayUnbindAct bay)⟩
  | mouldChecked p bay => exact ⟨_, rfl, h.serve (h.mouldCheckedAct bay)⟩
  | shotAbort p bay => exact ⟨_, rfl, h.serve (h.shotAbortAct bay)⟩
  | serialBase p value => exact ⟨_, rfl, h.serve (h.serialBaseAct value)⟩
  | heatMode p code => exact ⟨_, rfl, h.serve (h.heatModeAct code)⟩
  | park p => exact ⟨_, rfl, h.serve h.parkAct⟩
  | zoneEnable p zone => exact ⟨_, rfl, h.serve (h.zoneAct zone true)⟩
  | zoneDisable p zone => exact ⟨_, rfl, h.serve (h.zoneAct zone false)⟩
  | historyAck p serial => exact ⟨_, rfl, h.serve (h.historyAckAct serial)⟩
  | dispositionSet p serial disposition =>
    exact ⟨_, rfl, h.serve (h.dispositionSetAct serial disposition)⟩
  | configSet p tag data => exact ⟨_, rfl, h.serve (h.configSetAct tag data)⟩
  | frameStart p =>
    refine ⟨_, rfl, ?_⟩
    split <;> exact h
  | frameEnd p bytes spare => exact ⟨_, rfl, h.frameEnds p bytes spare⟩
  | frameTimeout held => exact ⟨_, rfl, h.frameExpires held.port held.clocked⟩
  | unknownCode p code params => exact ⟨_, rfl, .ite _ (h.frameEnds p _ 0) h⟩
  | resultReturn p => exact ⟨_, rfl, h.event (h.returnResult p)⟩
  | noticeAge p => exact ⟨_, rfl, h.event h⟩
  | silenceTimerExpiry p => exact ⟨_, rfl, h.event (h.silenceExpires p)⟩
  | heatPeriod => exact ⟨_, rfl, h.event h.heatPeriod⟩
  | idleTimerExpiry => exact ⟨_, rfl, h.event h.idleExpires⟩
  | heaterSwitchOff z => exact ⟨_, rfl, h.event (.ite _ h h)⟩
  | roundBegin => exact ⟨_, rfl, h.event h.beginRound⟩
  | pollReply r => exact ⟨_, rfl, h.event (h.takeReply r)⟩
  | replyTimeout => exact ⟨_, rfl, h.event h.missReply⟩
  | weighTimerExpiry => exact ⟨_, rfl, h.event h.weighExpires⟩
  | ejectionTimerExpiry => exact ⟨_, rfl, h.event h.ejectExpires⟩
  | pfwarnAsserted =>
    have hpin : SerialLaw { s with pins.pfwarn := true } := h
    exact ⟨_, rfl, hpin.event hpin.enterWarning⟩
  | pfwarnDeasserted =>
    have hpin : SerialLaw { s with pins.pfwarn := false } := h
    exact ⟨_, rfl, hpin.event hpin.leaveWarning⟩
  | mainLoss | retainLoss | resetAsserted | clk32Stopped | clk32Resumed => exact ⟨_, rfl, h⟩
  | restart | resetReleased | cellTimeSecond => exact ⟨_, rfl, .ite _ h h⟩
  | mainRise => exact ⟨_, rfl, .ite _ h (.ite _ h h)⟩
  | configLoadEnd image =>
    refine ⟨_, rfl, ?_⟩
    split
    · exact h.endStart _ image
    · exact h
    · exact h

/-- R13: every step keeps the law. -/
theorem SerialLaw.step (h : SerialLaw s) (hstep : step s = .next t) : SerialLaw t := by
  unfold Machine.step at hstep
  split at hstep
  · cases hstep
    exact h
  · next c rest _ =>
    have hrest : SerialLaw { s with pending := rest } := h
    obtain ⟨u, hu, hlaw⟩ := hrest.exec c
    cases hu.symm.trans hstep
    exact hlaw

/-! ### SERIAL BASE (R12) -/

theorem serialBaseAct_of_unset {x : BitVec 32} (hunset : s.serial = none) (hlow : 1 ≤ x.toNat)
    (hhigh : x.toNat ≤ 4294967294) :
    serialBaseAct x s = ({ s with serial := some x.toNat }, ⟨.ok, [.num x.toNat]⟩) :=
  if_pos ⟨hunset, hlow, hhigh⟩

theorem serialBaseAct_of_invalid {x : BitVec 32}
    (hinvalid : s.serial ≠ none ∨ x.toNat < 1 ∨ 4294967294 < x.toNat) :
    serialBaseAct x s = (s, ⟨.invalid, []⟩) := by
  refine if_neg ?_
  rintro ⟨hunset, hlow, hhigh⟩
  rcases hinvalid with hset | hzero | htop
  · exact hset hunset
  · omega
  · omega

/-- Settles O40: SERIAL BASE by its two cases, and the law command by command from what each of the
operations keeps. -/
theorem serialLawIsKept : Obligations.SerialLawIsKept := by
  unfold Obligations.SerialLawIsKept
  refine ⟨fun s p x hready => ⟨fun hunset hlow hhigh => ?_, fun hinvalid => ?_⟩, fun s t h => h.step⟩
  · exact answers_of_act hready rfl (serialBaseAct_of_unset hunset hlow hhigh) rfl rfl
  · exact turnsAway_of_act hready rfl (serialBaseAct_of_invalid hinvalid)

end Sys2Proof.Machine

/-!
R103, R107: the law of the charge. It speaks of the open shots and of the recipes they name, so an
operation that leaves the slots and the recipe table as they are keeps it. Of the others, most leave a
shot's list, total and recipe slot alone and move no shot out of CHARGING. What is left keeps the law
for a reason of its own: CHARGE BEGIN opens an empty list, a capture finds room in the list (the law of
the pending weigh), REMOVE PIECE and DISCARD CHARGE act on a shot in CHARGING, CHARGE DONE passes a
total within the window, an ejection ends on a shot past CHARGING (the law of the ejection), and RECIPE
WRITE needs a slot that no open shot names (the law of the in-use counts).
-/

namespace Sys2Proof.Machine

open Sys2Proof

/-! ### What leaves the open shots and the recipe table as they are -/

/-- What the charges are judged on: the open shots and the recipe table. -/
def State.charges (s : State) : PerBay (Option Shot) × Hex RecipeSlot := (s.slots, s.recipes)

section Frames

variable (s : State)

@[simp] theorem State.postRole_charges (r : Role) (n : Notice) :
    (s.postRole r n).charges = s.charges := rfl

@[simp] theorem State.postAll_charges (n : Notice) : (s.postAll n).charges = s.charges := rfl

@[simp] theorem State.postSubs_charges (n : Notice) : (s.postSubs n).charges = s.charges := rfl

@[simp] theorem State.withdrawClose_charges (c z : Nat) :
    (s.withdrawClose c z).charges = s.charges := by
  obtain ⟨_, heq⟩ := s.withdrawClose_shape c z
  exact heq ▸ rfl

@[simp] theorem State.handFlags_charges (old : Zones Zone) :
    (s.handFlags old).charges = s.charges := by
  obtain ⟨_, _, _, heq⟩ := s.handFlags_shape old
  exact heq ▸ rfl

@[simp] theorem State.rederiveZones_charges : s.rederiveZones.charges = s.charges := by
  obtain ⟨_, _, _, _, heq⟩ := s.rederiveZones_shape
  exact heq ▸ rfl

@[simp] theorem State.setMode_charges (m : HeatMode) : (s.setMode m).charges = s.charges := by
  obtain ⟨_, _, _, _, heq⟩ := s.setMode_shape m
  exact heq ▸ rfl

@[simp] theorem State.wake_charges : s.wake.charges = s.charges := by
  obtain ⟨_, _, _, _, _, _, heq⟩ := s.wake_shape
  exact heq ▸ rfl

@[simp] theorem State.setPress_charges (x : PressState) : (s.setPress x).charges = s.charges := by
  obtain ⟨_, heq⟩ := s.setPress_shape x
  exact heq ▸ rfl

@[simp] theorem State.setPosition_charges (x : Position) :
    (s.setPosition x).charges = s.charges := by
  obtain ⟨_, _, _, _, heq⟩ := s.setPosition_shape x
  exact heq ▸ rfl

@[simp] theorem State.withdrawShuttle_charges (c : Nat) :
    (s.withdrawShuttle c).charges = s.charges := by
  obtain ⟨_, _, _, _, _, _, heq⟩ := s.withdrawShuttle_shape c
  exact heq ▸ rfl

@[simp] theorem State.blockGrants_charges (sc : Scope) :
    (s.blockGrants sc).charges = s.charges := by
  obtain ⟨_, _, _, _, _, _, _, heq⟩ := s.blockGrants_shape sc
  exact heq ▸ rfl

@[simp] theorem State.setPressSilent_charges (v : Bool) :
    (s.setPressSilent v).charges = s.charges := by
  obtain ⟨_, heq⟩ := s.setPressSilent_shape v
  exact heq ▸ rfl

@[simp] theorem State.setPowerWarn_charges (v : Bool) :
    (s.setPowerWarn v).charges = s.charges := by
  obtain ⟨_, heq⟩ := s.setPowerWarn_shape v
  exact heq ▸ rfl

@[simp] theorem State.setMouldCheck_charges (y : Bay) (v : Bool) :
    (s.setMouldCheck y v).charges = s.charges := by
  obtain ⟨_, _, _, _, _, heq⟩ := s.setMouldCheck_shape y v
  exact heq ▸ rfl

@[simp] theorem State.promote_charges (r : Area) : (s.promote r).charges = s.charges := by
  obtain ⟨_, _, heq⟩ := s.promote_shape r
  exact heq ▸ rfl

@[simp] theorem State.promoteBoth_charges : s.promoteBoth.charges = s.charges := by
  obtain ⟨_, _, heq⟩ := s.promoteBoth_shape
  exact heq ▸ rfl

@[simp] theorem State.settle_charges (before : State) : (s.settle before).charges = s.charges := by
  obtain ⟨_, _, _, heq⟩ := s.settle_shape before
  exact heq ▸ rfl

@[simp] theorem State.judgeNearFull_charges : s.judgeNearFull.charges = s.charges := by
  obtain ⟨_, _, heq⟩ := s.judgeNearFull_shape
  exact heq ▸ rfl

@[simp] theorem State.raiseCounts_charges (y : Bay) (sh : Shot) :
    (s.raiseCounts y sh).charges = s.charges := by
  obtain ⟨_, heq⟩ := s.raiseCounts_shape y sh
  exact heq ▸ rfl

@[simp] theorem State.withdrawIfDue_charges (wasDue : Bool) :
    (s.withdrawIfDue wasDue).charges = s.charges := by
  unfold State.withdrawIfDue
  split
  · exact s.withdrawClose_charges 7 0
  · rfl

@[simp] theorem State.completePark_charges : s.completePark.charges = s.charges := by
  unfold State.completePark
  split
  · exact (s.setPark false).setMode_charges .off
  · rfl

@[simp] theorem State.weighLost_charges (a : Nat) : (s.weighLost a).charges = s.charges := by
  unfold State.weighLost
  split <;> rfl

@[simp] theorem State.endDead_charges : s.endDead.charges = s.charges := by
  unfold State.endDead
  split
  · exact s.weighLost_charges _
  · rfl

@[simp] theorem State.weighExpires_charges : s.weighExpires.charges = s.charges := by
  unfold State.weighExpires
  split
  · rfl
  · split <;> rfl

@[simp] theorem State.beginRound_charges : s.beginRound.charges = s.charges := by
  unfold State.beginRound
  split <;> rfl

@[simp] theorem State.stopEject_charges (c : StopCause) :
    (s.stopEject c).charges = s.charges := by
  unfold State.stopEject
  split <;> rfl

@[simp] theorem State.idleTick_charges : s.idleTick.charges = s.charges := by
  unfold State.idleTick
  split <;> rfl

@[simp] theorem State.idleExpires_charges : s.idleExpires.charges = s.charges := by
  unfold State.idleExpires
  split
  · exact State.setMode_charges { s with heat.idleTimer := 0 } .setbackAuto
  · rfl

@[simp] theorem State.switchOff_charges (z : ZoneId) : (s.switchOff z).charges = s.charges := by
  unfold State.switchOff
  split <;> rfl

@[simp] theorem State.takeUpNotices_charges (old : State) (zs : List ZoneId) :
    (s.takeUpNotices old zs).charges = s.charges := by
  induction zs generalizing s with
  | nil => rfl
  | cons z zs ih =>
    refine (ih _).trans ?_
    split
    · rfl
    · split <;> rfl

@[simp] theorem State.clearFresh_charges (zs : List ZoneId) :
    (s.clearFresh zs).charges = s.charges := by
  induction zs generalizing s with
  | nil => rfl
  | cons z zs ih =>
    unfold State.clearFresh
    split
    · exact ih s
    · exact ih _

@[simp] theorem State.takeUpStage_charges : s.takeUpStage.charges = s.charges :=
  (State.clearFresh_charges _ ZoneId.all).trans (s.takeUpNotices_charges s ZoneId.all)

@[simp] theorem State.rampStageAll_charges (before : State) :
    (s.rampStageAll before).charges = s.charges := rfl

@[simp] theorem State.piStageAll_charges : s.piStageAll.charges = s.charges := rfl

@[simp] theorem State.arbitrateAll_charges : s.arbitrateAll.charges = s.charges := rfl

/-! ### Ports and frames -/

@[simp] theorem State.setBuffer_charges (p : PortId) (b : Buffer) :
    (s.setBuffer p b).charges = s.charges := rfl

@[simp] theorem State.raiseFlag_charges (p : PortId) (n : FlagName) :
    (s.raiseFlag p n).charges = s.charges := by
  obtain ⟨_, heq⟩ := s.raiseFlag_shape p n
  exact heq ▸ rfl

@[simp] theorem State.badFrame_charges (p : PortId) (k : ReplyKind) (n : FlagName) :
    (s.badFrame p k n).charges = s.charges := by
  obtain ⟨_, heq⟩ := s.badFrame_shape p k n
  exact heq ▸ rfl

@[simp] theorem State.lateFrame_charges (p : PortId) (k : ReplyKind) :
    (s.lateFrame p k).charges = s.charges := by
  obtain ⟨_, heq⟩ := s.lateFrame_shape p k
  exact heq ▸ rfl

@[simp] theorem State.consume_charges (p : PortId) (k : ReplyKind) :
    (s.consume p k).charges = s.charges := by
  unfold State.consume
  split <;> rfl

@[simp] theorem State.portValid_charges (p : PortId) : (s.portValid p).charges = s.charges := by
  unfold State.portValid
  dsimp only
  split
  · exact State.setPressSilent_charges _ false
  · rfl

@[simp] theorem State.takeRequest_charges (p : PortId) (code : Byte) (params : List Byte) :
    (s.takeRequest p code params).charges = s.charges := by
  unfold State.takeRequest
  split
  · simp
  · split
    · simp
    · split <;> rfl

@[simp] theorem State.endFrame_charges (p : PortId) (k : ReplyKind) (bytes : List Byte)
    (spare : Fin 8) : (s.endFrame p k bytes spare).charges = s.charges := by
  unfold State.endFrame
  dsimp only
  split
  · simp
  · simp
  · split <;> simp

@[simp] theorem State.returnResult_charges (p : PortId) :
    (s.returnResult p).charges = s.charges := by
  unfold State.returnResult
  split <;> rfl

theorem State.event_charges {f : State → State} (hf : ∀ u : State, (f u).charges = u.charges) :
    (s.event f).charges = s.charges := by
  unfold State.event
  split
  · rw [State.settle_charges, hf]
  · rfl

@[simp] theorem State.frameEnds_charges (p : PortId) (bytes : List Byte) (spare : Fin 8) :
    (s.frameEnds p bytes spare).charges = s.charges := by
  unfold State.frameEnds
  split
  · rfl
  · dsimp only
    split
    · rfl
    · refine (State.event_charges _ fun u => ?_).trans rfl
      split <;> simp

@[simp] theorem State.frameExpires_charges (p : PortId) (clocked : Bool) :
    (s.frameExpires p clocked).charges = s.charges := by
  unfold State.frameExpires
  split
  · rfl
  · split
    · rfl
    · refine s.event_charges fun u => ?_
      cases clocked
      · rfl
      · exact u.lateFrame_charges p _

@[simp] theorem State.loaderLost_charges : s.loaderLost.charges = s.charges := by
  unfold State.loaderLost
  split
  · rfl
  · split <;> rfl
  · rfl

@[simp] theorem State.cancelWait_charges (u : AreaUser) (r : Area) :
    (s.cancelWait u r).charges = s.charges := by
  unfold State.cancelWait
  dsimp only
  split <;> rfl

@[simp] theorem State.cancelWaits_charges (u : AreaUser) :
    (s.cancelWaits u).charges = s.charges := by
  simp [State.cancelWaits]

/-! ### Requests that touch neither shots nor recipes -/

theorem readNoticeAct_charges (p : PortId) : (readNoticeAct p s).1.charges = s.charges := by
  unfold readNoticeAct
  dsimp only
  split <;> rfl

theorem subscribeAct_charges (p : PortId) (level : Byte) (codes : List Byte) :
    (subscribeAct p level codes s).1.charges = s.charges := by
  unfold subscribeAct
  split
  · rfl
  · split <;> rfl

theorem portStatusAct_charges (p : PortId) (named : Option (Byte × List Byte)) :
    (portStatusAct p named s).1.charges = s.charges := by
  unfold portStatusAct
  split
  · rfl
  · split
    · split
      · exact s.raiseFlag_charges p .permission
      · rfl
    · rfl

theorem holdAddAct_charges (p : PortId) (scope reason : Byte) :
    (holdAddAct p scope reason s).1.charges = s.charges := by
  unfold holdAddAct
  split
  · rfl
  · split
    · rfl
    · dsimp only
      split
      · rfl
      · split
        · rfl
        · exact State.blockGrants_charges _ _

theorem State.removeHolds_charges (f : Hold → Bool) : (s.removeHolds f).charges = s.charges := by
  unfold State.removeHolds
  dsimp only
  split <;> rfl

theorem holdRemoveAct_charges (p : PortId) (scope reason : Byte) :
    (holdRemoveAct p scope reason s).1.charges = s.charges := by
  unfold holdRemoveAct
  split
  · rfl
  · split
    · rfl
    · exact s.removeHolds_charges _

theorem closeRequestAct_charges : (closeRequestAct s).1.charges = s.charges := by
  unfold closeRequestAct
  split
  · rfl
  · split <;> rfl

@[simp] theorem State.requestShuttle_charges (y : Bay) :
    (s.requestShuttle y).1.charges = s.charges := by
  unfold State.requestShuttle
  split
  · rfl
  · exact State.setPosition_charges _ .moving

theorem shuttleRequestAct_charges (target : Byte) :
    (shuttleRequestAct target s).1.charges = s.charges := by
  unfold shuttleRequestAct
  split
  · rfl
  · simp

theorem shuttleDoneAct_charges (position : Byte) :
    (shuttleDoneAct position s).1.charges = s.charges := by
  unfold shuttleDoneAct
  split
  · rfl
  · split
    · rfl
    · exact (State.promoteBoth_charges _).trans (State.setPosition_charges _ _)

@[simp] theorem State.enterArea_charges (u : AreaUser) (r : Area) :
    (s.enterArea u r).1.charges = s.charges := by
  unfold State.enterArea
  dsimp only
  repeat' split
  all_goals rfl

theorem areaEnterAct_charges (p : PortId) (area : Byte) :
    (areaEnterAct p area s).1.charges = s.charges := by
  unfold areaEnterAct
  split
  · rfl
  · rfl
  · simp

@[simp] theorem State.releaseArea_charges (u : AreaUser) (r : Area) :
    (s.releaseArea u r).charges = s.charges := by
  unfold State.releaseArea
  dsimp only
  split
  · exact State.stopEject_charges _ .areaReleased
  · rfl

theorem State.leaveArea_charges (u : AreaUser) (r : Area) :
    (s.leaveArea u r).1.charges = s.charges := by
  unfold State.leaveArea
  dsimp only
  split
  · simp
  · split <;> rfl

theorem areaLeaveAct_charges (p : PortId) (area : Byte) :
    (areaLeaveAct p area s).1.charges = s.charges := by
  unfold areaLeaveAct
  split
  · rfl
  · rfl
  · exact s.leaveArea_charges _ _

theorem forceLeaveAct_charges (area : Byte) : (forceLeaveAct area s).1.charges = s.charges := by
  unfold forceLeaveAct
  split
  · rfl
  · split
    · rfl
    · simp

theorem weighPieceAct_charges (bay : Byte) : (weighPieceAct bay s).1.charges = s.charges := by
  unfold weighPieceAct
  split
  · rfl
  · split
    · rfl
    · split
      · rfl
      · split
        · rfl
        · exact State.endDead_charges _

theorem weighCancelAct_charges : (weighCancelAct s).1.charges = s.charges := by
  unfold weighCancelAct
  split <;> rfl

theorem tareAct_charges (p : PortId) : (tareAct p s).1.charges = s.charges := by
  unfold tareAct
  split
  · rfl
  · exact State.endDead_charges _

theorem State.bindBay_charges (y : Bay) (mould : Nat) (i : Ix16) :
    (s.bindBay y mould i).charges = s.charges := by
  unfold State.bindBay
  dsimp only
  rw [State.rederiveZones_charges]
  split
  · rfl
  · exact State.setMouldCheck_charges _ y false

theorem bayBindAct_charges (bay : Byte) (mould : BitVec 16) (slot : Byte) :
    (bayBindAct bay mould slot s).1.charges = s.charges := by
  unfold bayBindAct
  split
  · split
    · rfl
    · split
      · rfl
      · exact s.bindBay_charges _ _ _
  · rfl

theorem bayUnbindAct_charges (bay : Byte) : (bayUnbindAct bay s).1.charges = s.charges := by
  unfold bayUnbindAct
  split
  · rfl
  · split
    · rfl
    · split
      · rfl
      · exact State.rederiveZones_charges _

theorem releaseAppliedAct_charges (p : PortId) (target : Byte) :
    (releaseAppliedAct p target s).1.charges = s.charges := by
  unfold releaseAppliedAct
  repeat' split
  all_goals rfl

theorem mouldCheckedAct_charges (bay : Byte) : (mouldCheckedAct bay s).1.charges = s.charges := by
  unfold mouldCheckedAct
  split
  · rfl
  · exact s.setMouldCheck_charges _ false

theorem serialBaseAct_charges (value : BitVec 32) :
    (serialBaseAct value s).1.charges = s.charges := by
  unfold serialBaseAct
  split <;> rfl

theorem heatModeAct_charges (code : Byte) : (heatModeAct code s).1.charges = s.charges := by
  have hcancel : s.cancelPark.charges = s.charges := by
    unfold State.cancelPark
    split <;> rfl
  unfold heatModeAct
  split
  · rfl
  · exact (State.setMode_charges _ _).trans hcancel

theorem parkAct_charges : (parkAct s).1.charges = s.charges := by
  unfold parkAct
  split
  · rfl
  · split
    · exact s.setMode_charges .off
    · rfl

theorem zoneAct_charges (zone : Byte) (v : Bool) : (zoneAct zone v s).1.charges = s.charges :=
  State.rederiveZones_charges _

theorem historyAckAct_charges (serial : BitVec 32) :
    (historyAckAct serial s).1.charges = s.charges := by
  unfold historyAckAct
  split
  · rfl
  · split
    · rfl
    · exact State.judgeNearFull_charges _

theorem State.dispose_charges (i : Nat) (r : Record) (d : Disposition) :
    (s.dispose i r d).charges = s.charges := by
  unfold State.dispose
  dsimp only
  split
  · exact State.judgeNearFull_charges _
  · rfl

theorem dispositionSetAct_charges (serial : BitVec 32) (disposition : Byte) :
    (dispositionSetAct serial disposition s).1.charges = s.charges := by
  unfold dispositionSetAct
  split
  · rfl
  · split
    · rfl
    · split
      · rfl
      · split
        · rfl
        · split
          · rfl
          · exact s.dispose_charges _ _ _

@[simp] theorem State.restartTimer_charges (old : Cfg) (p : PortId) :
    (s.restartTimer old p).charges = s.charges := by
  unfold State.restartTimer
  dsimp only
  split <;> rfl

theorem State.storeItem_charges (i : Item) : (s.storeItem i).charges = s.charges := by
  unfold State.storeItem
  simp only [State.restartTimer_charges]
  split
  · split <;> rfl
  · rw [State.rederiveZones_charges]
    split <;> rfl

theorem configSetAct_charges (tag : Byte) (data : List Byte) :
    (configSetAct tag data s).1.charges = s.charges := by
  unfold configSetAct
  split
  · rfl
  · split
    · rfl
    · exact s.storeItem_charges _

/-! ### Supplies and starts -/

theorem State.enterWarning_charges : s.enterWarning.charges = s.charges := by
  unfold State.enterWarning
  split
  · exact (State.blockGrants_charges _ .cell).trans (State.setPowerWarn_charges _ true)
  · rfl

theorem State.leaveWarning_charges : s.leaveWarning.charges = s.charges := by
  unfold State.leaveWarning
  split
  · exact State.setPowerWarn_charges _ false
  · rfl

theorem State.startNotices_charges (k : StartKind) : (s.startNotices k).charges = s.charges := by
  have hderive : ∀ u : State, u.deriveNearFull.charges = u.charges := by
    intro u
    unfold State.deriveNearFull
    split <;> rfl
  unfold State.startNotices
  rw [hderive]
  repeat' split
  all_goals rfl

theorem execFrameStart_charges (p : PortId) :
    ∃ u, execFrameStart p s = .next u ∧ u.charges = s.charges := by
  refine ⟨_, rfl, ?_⟩
  split <;> rfl

end Frames

/-! ### A shot that fits its recipe -/

/-- R103, R107: what the law says of one open shot and its recipe. -/
def Shot.FitsRecipe (sh : Shot) (r : Recipe) : Prop :=
  sh.pieces.map Piece.number = (List.range sh.pieces.length).map (· + 1)
    ∧ sh.chargeTotal = (sh.pieces.map Piece.net).sum
    ∧ sh.pieces.length ≤ r.maxPieces
    ∧ (sh.stage ≠ .charging → r.chargeLow ≤ sh.chargeTotal ∧ sh.chargeTotal ≤ r.chargeHigh)

theorem chargeLaw_iff {s : State} :
    ChargeLaw s
      ↔ ∀ y sh r, s.slots.get y = some sh → s.shotRecipe sh = some r → sh.FitsRecipe r :=
  Iff.rfl

/-- The two contexts have one recipe slot, list and total, and the change from the first to the second
does not leave CHARGING. -/
def Shot.SameCharge (old new : Shot) : Prop :=
  new.recipeSlot = old.recipeSlot ∧ new.pieces = old.pieces ∧ new.chargeTotal = old.chargeTotal
    ∧ (new.stage ≠ .charging → old.stage ≠ .charging)

variable {sh sh' : Shot} {r : Recipe}

theorem Shot.FitsRecipe.of_same (h : sh.FitsRecipe r) (hsame : sh.SameCharge sh') :
    sh'.FitsRecipe r := by
  obtain ⟨hnumbers, htotal, hroom, hwindow⟩ := h
  obtain ⟨-, hpieces, hsum, hstage⟩ := hsame
  unfold Shot.FitsRecipe
  rw [hpieces, hsum]
  exact ⟨hnumbers, htotal, hroom, fun hpast => hwindow (hstage hpast)⟩

theorem Shot.marked_sameCharge (sh : Shot) (c : Timestamp) : sh.SameCharge (sh.marked c) := by
  unfold Shot.marked
  split <;> exact ⟨rfl, rfl, rfl, id⟩

/-- A timestamp's mark on the exceptions is nothing to the charge. -/
theorem Shot.FitsRecipe.marked (h : sh.FitsRecipe r) (c : Timestamp) : (sh.marked c).FitsRecipe r :=
  h.of_same (sh.marked_sameCharge c)

theorem Shot.marked_recipeSlot (sh : Shot) (c : Timestamp) :
    (sh.marked c).recipeSlot = sh.recipeSlot :=
  let ⟨hslot, _⟩ := sh.marked_sameCharge c
  hslot

theorem Shot.enter_recipeSlot (sh : Shot) (st : Stage) (c : Timestamp) :
    (sh.enter st c).recipeSlot = sh.recipeSlot := by
  cases st <;> rfl

/-- R6, R107: a stage entered with the total within the window. -/
theorem Shot.FitsRecipe.enter (h : sh.FitsRecipe r) (st : Stage) (c : Timestamp)
    (hlow : r.chargeLow ≤ sh.chargeTotal) (hhigh : sh.chargeTotal ≤ r.chargeHigh) :
    (sh.enter st c).FitsRecipe r := by
  obtain ⟨hnumbers, htotal, hroom, -⟩ := h
  cases st <;> exact ⟨hnumbers, htotal, hroom, fun _ => ⟨hlow, hhigh⟩⟩

/-- R15: an empty list in CHARGING fits every recipe. -/
theorem Shot.FitsRecipe.of_nil (hnil : sh.pieces = []) (hzero : sh.chargeTotal = 0)
    (hstage : sh.stage = .charging) : sh.FitsRecipe r := by
  simp [Shot.FitsRecipe, hnil, hzero, hstage]

/-- R95, step 3: a piece appended where the list has room, to a shot in CHARGING. -/
theorem Shot.FitsRecipe.appendPiece (h : sh.FitsRecipe r) (net : Int) (c : Timestamp)
    (hstage : sh.stage = .charging) (hroom : sh.pieces.length < r.maxPieces) :
    (sh.appendPiece net c).FitsRecipe r := by
  obtain ⟨hnumbers, htotal, -, -⟩ := h
  unfold Shot.appendPiece
  refine Shot.FitsRecipe.marked ?_ c
  refine ⟨?_, ?_, ?_, fun hpast => absurd hstage hpast⟩
  · simp only [List.map_append, List.map_cons, List.map_nil, List.length_append,
      List.length_singleton, List.range_succ, hnumbers]
  · simp only [List.map_append, List.map_cons, List.map_nil, List.sum_append, List.sum_cons,
      List.sum_nil, Int.add_zero, htotal]
  · rw [List.length_append, List.length_singleton]
    exact Nat.succ_le_of_lt hroom

theorem Shot.appendPiece_recipeSlot (sh : Shot) (net : Int) (c : Timestamp) :
    (sh.appendPiece net c).recipeSlot = sh.recipeSlot :=
  Shot.marked_recipeSlot _ c

/-- R104: the last piece removed from the list of a shot in CHARGING. -/
theorem Shot.FitsRecipe.dropPiece (h : sh.FitsRecipe r) {x : Piece}
    (hlast : sh.pieces.getLast? = some x) (hstage : sh.stage = .charging) :
    (sh.dropPiece x).FitsRecipe r := by
  obtain ⟨hnumbers, htotal, hroom, -⟩ := h
  obtain ⟨front, hpieces⟩ := List.getLast?_eq_some_iff.1 hlast
  simp only [hpieces, List.map_append, List.map_cons, List.map_nil, List.length_append,
    List.length_cons, List.length_nil, List.range_succ, List.sum_append, List.sum_cons,
    List.sum_nil] at hnumbers htotal hroom
  obtain ⟨hfront, -⟩ := List.append_inj' hnumbers rfl
  refine ⟨?_, ?_, ?_, fun hpast => absurd hstage hpast⟩
  · simp only [Shot.dropPiece, hpieces, List.dropLast_concat]
    exact hfront
  · simp only [Shot.dropPiece, hpieces, List.dropLast_concat]
    omega
  · simp only [Shot.dropPiece, hpieces, List.dropLast_concat]
    omega

/-! ### The law and the slots -/

variable {s t : State} {y : Bay}

theorem ChargeLaw.of_charges (h : ChargeLaw s) (hsame : t.charges = s.charges) : ChargeLaw t := by
  obtain ⟨hslots, hrecipes⟩ := Prod.mk.inj hsame
  intro y sh r hget hrecipe
  rw [hslots] at hget
  unfold State.shotRecipe State.recipeAt at hrecipe
  rw [hrecipes] at hrecipe
  exact h y sh r hget hrecipe

theorem ChargeLaw.ite (c : Prop) [Decidable c] (hs : ChargeLaw s) (ht : ChargeLaw t) :
    ChargeLaw (if c then s else t) := by
  split
  · exact hs
  · exact ht

/-- Without an open shot there is nothing to hold. -/
theorem ChargeLaw.of_empty (hempty : ∀ y, s.slots.get y = none) : ChargeLaw s := by
  intro y sh r hget
  cases (hempty y).symm.trans hget

/-- What a bay's slot is set to must fit its recipe. -/
theorem ChargeLaw.setSlot (h : ChargeLaw s) {o : Option Shot}
    (hfits : ∀ sh r, o = some sh → s.shotRecipe sh = some r → sh.FitsRecipe r) :
    ChargeLaw (s.setSlot y o) := by
  refine chargeLaw_iff.2 fun z sh r hget hrecipe => ?_
  rw [State.setSlot_slots, PerBay.get_set] at hget
  split at hget
  · exact hfits sh r hget hrecipe
  · exact h z sh r hget hrecipe

theorem ChargeLaw.setSlot_none (h : ChargeLaw s) : ChargeLaw (s.setSlot y none) :=
  h.setSlot fun _ _ hnone => nomatch hnone

/-- Another context for a bay's shot, with its recipe slot, must fit the recipe if the shot does. -/
theorem ChargeLaw.setSlot_some (h : ChargeLaw s) (hget : s.slots.get y = some sh)
    (hslot : sh'.recipeSlot = sh.recipeSlot)
    (hfits : ∀ r, s.shotRecipe sh = some r → sh.FitsRecipe r → sh'.FitsRecipe r) :
    ChargeLaw (s.setSlot y (some sh')) := by
  refine h.setSlot fun new r hnew hrecipe => ?_
  cases hnew
  have hold : s.shotRecipe sh = some r := by
    rwa [State.shotRecipe, hslot] at hrecipe
  exact hfits r hold (chargeLaw_iff.1 h y sh r hget hold)

theorem ChargeLaw.setSlot_same (h : ChargeLaw s) (hget : s.slots.get y = some sh)
    (hsame : sh.SameCharge sh') : ChargeLaw (s.setSlot y (some sh')) :=
  let ⟨hslot, _⟩ := hsame
  h.setSlot_some hget hslot fun _ _ hfits => hfits.of_same hsame

theorem ChargeLaw.mapShot (h : ChargeLaw s) (y : Bay) {f : Shot → Shot}
    (hf : ∀ sh : Shot, sh.SameCharge (f sh)) : ChargeLaw (s.mapShot y f) := by
  unfold State.mapShot
  cases hget : s.slots.get y with
  | none => exact h.setSlot_none
  | some sh => exact h.setSlot_same hget (hf sh)

theorem ChargeLaw.addExc (h : ChargeLaw s) (y : Bay) (e : Exc) : ChargeLaw (s.addExc y e) :=
  h.mapShot y fun _ => ⟨rfl, rfl, rfl, id⟩

/-- R6, R107: a stage advance of a shot whose total is within the window. -/
theorem ChargeLaw.advance_of_window (h : ChargeLaw s) (y : Bay) (st : Stage)
    (hwindow : ∀ sh r, s.slots.get y = some sh → s.shotRecipe sh = some r →
      r.chargeLow ≤ sh.chargeTotal ∧ sh.chargeTotal ≤ r.chargeHigh) :
    ChargeLaw (s.advance y st) := by
  unfold State.advance
  split
  · exact h
  · next sh hget =>
    refine ChargeLaw.of_charges (h.setSlot_some hget ?_ fun r hrecipe hfits => ?_)
      (State.postSubs_charges _ _)
    · rw [Shot.marked_recipeSlot, Shot.enter_recipeSlot]
    · obtain ⟨hlow, hhigh⟩ := hwindow sh r hget hrecipe
      exact (hfits.enter st s.stamp hlow hhigh).marked s.stamp

/-- A shot past CHARGING is within its window already, so each further stage is. -/
theorem ChargeLaw.advance (h : ChargeLaw s) (y : Bay) (st : Stage)
    (hpast : s.shotStage y ≠ some .charging) : ChargeLaw (s.advance y st) := by
  refine h.advance_of_window y st fun sh r hget hrecipe => ?_
  obtain ⟨-, -, -, hwindow⟩ := chargeLaw_iff.1 h y sh r hget hrecipe
  refine hwindow fun hcharging => hpast ?_
  rw [State.shotStage, hget, Option.map_some, hcharging]

theorem State.shotStage_of_charges (hsame : t.charges = s.charges) (y : Bay) :
    t.shotStage y = s.shotStage y :=
  congrArg (fun c : PerBay (Option Shot) × Hex RecipeSlot => (c.1.get y).map Shot.stage) hsame

theorem State.mapShot_shotStage (s : State) (y z : Bay) {f : Shot → Shot}
    (hf : ∀ sh, (f sh).stage = sh.stage) : (s.mapShot y f).shotStage z = s.shotStage z := by
  unfold State.shotStage State.mapShot
  rw [State.setSlot_slots, PerBay.get_set]
  split
  · next hyz =>
    subst hyz
    simp [Function.comp_def, hf]
  · rfl

@[simp] theorem State.addExc_shotStage (s : State) (y z : Bay) (e : Exc) :
    (s.addExc y e).shotStage z = s.shotStage z :=
  s.mapShot_shotStage y z fun _ => rfl

/-- R31: a slot's in-use count is nothing to the recipes. -/
theorem ChargeLaw.mapSlotUse (h : ChargeLaw s) (i : Ix16) (f : Nat → Nat) :
    ChargeLaw (s.mapSlotUse i f) := by
  intro y sh r hget hrecipe
  refine h y sh r hget ?_
  simp only [State.shotRecipe, State.recipeAt, State.mapSlotUse, Hex.get_set] at hrecipe ⊢
  split at hrecipe
  · next hi => rwa [← hi]
  · exact hrecipe

theorem ChargeLaw.event (h : ChargeLaw s) {f : State → State} (hf : ChargeLaw (f s)) :
    ChargeLaw (s.event f) := by
  unfold State.event
  split
  · exact hf.of_charges (State.settle_charges _ s)
  · exact h

/-- R178, step 4: a request keeps the law where its owner's act does. -/
theorem ChargeLaw.serve (h : ChargeLaw s) {p : PortId} {i : Instr} {act : State → State × Reply}
    (hact : ChargeLaw (act s).1) : ChargeLaw (s.serve p i act) := by
  refine h.event ?_
  split
  · exact hact.of_charges (State.setBuffer_charges _ p _)
  · exact h

/-- R20 to R23: a filing empties the slot. -/
theorem ChargeLaw.fileShot (h : ChargeLaw s) (y : Bay) (o : ShotOutcome) :
    ChargeLaw (s.fileShot y o) := by
  unfold State.fileShot
  split
  · exact h
  · next sh _ =>
    have hemptied := (h.setSlot_none (y := y)).mapSlotUse sh.recipeSlot (· - 1)
    refine hemptied.of_charges ?_
    dsimp only
    split
    · simp only [State.completePark_charges, State.postSubs_charges, State.withdrawIfDue_charges,
        State.raiseCounts_charges, State.judgeNearFull_charges]
      rfl
    · simp only [State.completePark_charges, State.postSubs_charges, State.judgeNearFull_charges]
      rfl

/-! ### Weighing -/

/-- R95: the list of a pending weigh's shot has room for the piece captured. -/
theorem ChargeLaw.capture (h : ChargeLaw s) (hweigh : WeighLaw s) (hslot : s.weigh.slot = .weigh y) :
    ChargeLaw (s.capture y) := by
  obtain ⟨sh, r, hget, hstage, hrecipe, hroom⟩ := hweigh y hslot
  have happended : ∀ net, ChargeLaw (s.mapShot y fun sh => sh.appendPiece net s.stamp) := by
    intro net
    unfold State.mapShot
    rw [hget]
    refine h.setSlot_some hget (sh.appendPiece_recipeSlot net _) fun r' hrecipe' hfits => ?_
    cases hrecipe.symm.trans hrecipe'
    exact hfits.appendPiece net _ hstage hroom
  unfold State.capture
  dsimp only
  split
  · exact h
  · split
    · exact h
    · exact happended _

theorem ChargeLaw.judgeWeigh (h : ChargeLaw s) (hweigh : WeighLaw s) : ChargeLaw s.judgeWeigh := by
  unfold State.judgeWeigh
  split
  · split
    · exact h
    · next hslot => exact h.capture hweigh hslot
    · exact h
  · exact h

/-! ### Demoulding -/

theorem ChargeLaw.stopEject (h : ChargeLaw s) (c : StopCause) : ChargeLaw (s.stopEject c) :=
  h.of_charges (s.stopEject_charges c)

theorem ChargeLaw.forceArrival (h : ChargeLaw s) (y : Bay) (v : Nat) (overrange : Bool) :
    ChargeLaw (s.forceArrival y v overrange) := by
  unfold State.forceArrival
  split
  · dsimp only
    split
    · exact (ChargeLaw.stopEject (s := { s with eject.peak := max s.eject.peak v }) h
        .overforce).addExc y .ejectOverforce
    · exact h
  · exact h

theorem ChargeLaw.forceLost (h : ChargeLaw s) (y : Bay) (a : Nat) : ChargeLaw (s.forceLost y a) := by
  unfold State.forceLost
  split
  · exact (h.stopEject .forceBlind).addExc y .forceBlind
  · exact h

theorem ChargeLaw.recordPeak (h : ChargeLaw s) (y : Bay) : ChargeLaw (s.recordPeak y) :=
  h.mapShot y fun _ => ⟨rfl, rfl, rfl, id⟩

theorem State.recordPeak_shotStage (s : State) (y z : Bay) :
    (s.recordPeak y).shotStage z = s.shotStage z :=
  s.mapShot_shotStage y z fun _ => rfl

theorem ChargeLaw.judgeSticking (h : ChargeLaw s) (y : Bay) : ChargeLaw (s.judgeSticking y) := by
  unfold State.judgeSticking
  split
  · exact (h.addExc y .sticking).of_charges (State.setMouldCheck_charges _ y true)
  · exact h

theorem State.judgeSticking_shotStage (s : State) (y z : Bay) :
    (s.judgeSticking y).shotStage z = s.shotStage z := by
  unfold State.judgeSticking
  split
  · rw [State.shotStage_of_charges (State.setMouldCheck_charges _ y true), State.addExc_shotStage]
  · rfl

/-- R142: an ejection ends on a shot past CHARGING. -/
theorem ChargeLaw.closeEject (h : ChargeLaw s) (y : Bay) (expired : Bool)
    (hpast : s.shotStage y ≠ some .charging) : ChargeLaw (s.closeEject y expired) := by
  have hjudged := (h.recordPeak y).judgeSticking y
  have hstage : ((s.recordPeak y).judgeSticking y).shotStage y ≠ some .charging := by
    rwa [State.judgeSticking_shotStage, State.recordPeak_shotStage]
  unfold State.closeEject
  cases expired with
  | false =>
    refine ChargeLaw.advance ?_ y .ejected ?_
    · exact hjudged
    · exact hstage
  | true =>
    rw [← State.addExc_shotStage _ y y .ejectTimeout] at hstage
    refine ChargeLaw.advance ?_ y .ejected ?_
    · exact hjudged.addExc y .ejectTimeout
    · exact hstage

/-- R133: the shot of an ejection is in OPENED. -/
theorem EjectLaw.shotStage_of_ejecting (h : EjectLaw s) (hejecting : s.ejecting y = true) :
    s.shotStage y = some .opened := by
  simp only [State.ejecting, Bool.and_eq_true, bne_iff_ne, beq_iff_eq] at hejecting
  obtain ⟨hstate, hbay⟩ := hejecting
  obtain ⟨z, sh, hz, hget, hstage, -⟩ := h hstate
  cases hbay.symm.trans hz
  rw [State.shotStage, hget, Option.map_some, hstage]

/-- R142: the closing steps of an ejection that is on the bay. -/
theorem ChargeLaw.closeEjecting (h : ChargeLaw s) (heject : EjectLaw s) (expired : Bool)
    (hejecting : s.ejecting y = true) : ChargeLaw (s.closeEject y expired) := by
  refine h.closeEject y expired ?_
  rw [heject.shotStage_of_ejecting hejecting]
  decide

theorem ChargeLaw.ejectExpires (h : ChargeLaw s) (heject : EjectLaw s) :
    ChargeLaw s.ejectExpires := by
  unfold State.ejectExpires
  split
  · split
    · next hejecting =>
      exact ChargeLaw.closeEjecting (s := s.timeoutAlarm _) h heject true hejecting
    · exact h
  · exact h

theorem ChargeLaw.startEject (h : ChargeLaw s) (y : Bay) (sh : Shot) :
    ChargeLaw (s.startEject y sh) := by
  unfold State.startEject
  dsimp only
  split
  · exact ChargeLaw.addExc h y .forceBlind
  · exact h

theorem ChargeLaw.ejectBeginAct (h : ChargeLaw s) (bay : Byte) :
    ChargeLaw (ejectBeginAct bay s).1 := by
  unfold Machine.ejectBeginAct
  split
  · exact h
  · split
    · exact h
    · split
      · exact h
      · split
        · exact h
        · split
          · exact h
          · split
            · exact h
            · exact h.startEject _ _

theorem ChargeLaw.ejectEndAct (h : ChargeLaw s) (heject : EjectLaw s) (bay : Byte) :
    ChargeLaw (ejectEndAct bay s).1 := by
  unfold Machine.ejectEndAct
  split
  · exact h
  · split
    · next hejecting => exact h.closeEjecting heject false hejecting
    · exact h

theorem ChargeLaw.partTakenAct (h : ChargeLaw s) (bay condition : Byte) :
    ChargeLaw (partTakenAct bay condition s).1 := by
  unfold Machine.partTakenAct
  split
  · split
    · exact h
    · split
      · exact h
      · refine ChargeLaw.fileShot ?_ _ .completed
        exact .ite _ (h.addExc _ .partDamaged) h
  · exact h

/-! ### The sensor link -/

theorem ChargeLaw.handLoss (h : ChargeLaw s) (n : Ix16) : ChargeLaw (s.handLoss n) := by
  unfold State.handLoss
  split
  · exact h.of_charges (s.weighLost_charges _)
  · exact h.forceLost .a _
  · exact h.forceLost .b _
  · exact h

theorem ChargeLaw.nodeMiss (h : ChargeLaw s) (n : Ix16) (m : MissReason) :
    ChargeLaw (s.nodeMiss n m) := by
  unfold State.nodeMiss
  dsimp only
  split
  · refine ChargeLaw.handLoss ?_ n
    exact h
  · exact h

theorem ChargeLaw.loadArrival (h : ChargeLaw s) (hweigh : WeighLaw s) (c : Chan) (x : LoadSample) :
    ChargeLaw (s.loadArrival c x) := by
  have hqueued : ChargeLaw { s with channels := s.channels.set c ((s.channels.get c).take x) } := h
  cases c with
  | w => exact hqueued.judgeWeigh hweigh
  | fa => exact hqueued.forceArrival .a _ _
  | fb => exact hqueued.forceArrival .b _ _

theorem ChargeLaw.deliver (h : ChargeLaw s) (hweigh : WeighLaw s) (n : Ix16) (d : NodeData) :
    ChargeLaw (s.deliver n d) := by
  unfold State.deliver
  split
  · exact h
  · split
    · exact h.loadArrival hweigh _ _
    · exact h

theorem ChargeLaw.nodeGood (h : ChargeLaw s) (hweigh : WeighLaw s) (n : Ix16) (d : NodeData) :
    ChargeLaw (s.nodeGood n d) := by
  unfold State.nodeGood
  refine ChargeLaw.deliver ?_ ?_ n d
  · split <;> exact h
  · split <;> exact hweigh

theorem ChargeLaw.takeReply (h : ChargeLaw s) (hweigh : WeighLaw s) (rep : NodeReply) :
    ChargeLaw (s.takeReply rep) := by
  unfold State.takeReply
  split
  · exact h
  · next n _ =>
    cases hmiss : s.replyMiss n rep with
    | some m => exact h.nodeMiss n m
    | none => exact h.nodeGood hweigh n rep.data

theorem ChargeLaw.missReply (h : ChargeLaw s) : ChargeLaw s.missReply := by
  unfold State.missReply
  split
  · exact h
  · exact h.nodeMiss _ .timeout

/-! ### A port going LOST -/

theorem ChargeLaw.silencePressed (h : ChargeLaw s) (y : Bay) : ChargeLaw (s.silencePressed y) := by
  unfold State.silencePressed
  split
  · exact h.addExc y .stationSilent
  · exact h

theorem ChargeLaw.pressLost (h : ChargeLaw s) : ChargeLaw s.pressLost := by
  have hpress : ChargeLaw (((s.withdrawClose 5 0).withdrawShuttle 2).setPress .unknown) :=
    h.of_charges (by simp)
  exact ((hpress.silencePressed .a).silencePressed .b).of_charges (by simp [State.pressLost])

theorem ChargeLaw.extractLost (h : ChargeLaw s) : ChargeLaw s.extractLost := by
  unfold State.extractLost
  split
  · split
    · exact (h.addExc _ .stationSilent).stopEject .stationSilent
    · exact h
  · exact h

theorem ChargeLaw.stationLost (h : ChargeLaw s) (r : Role) : ChargeLaw (s.stationLost r) := by
  cases r with
  | press => exact h.pressLost
  | loader => exact h.of_charges (by simp [State.stationLost])
  | extract => exact (h.of_charges (s.cancelWaits_charges .extract)).extractLost
  | line => exact h

theorem ChargeLaw.silenceExpires (h : ChargeLaw s) (p : PortId) : ChargeLaw (s.silenceExpires p) := by
  unfold State.silenceExpires
  dsimp only
  split
  · refine ChargeLaw.stationLost ?_ _
    exact h
  · exact h

/-! ### The cure step and the heat period -/

theorem ChargeLaw.makeCured (h : ChargeLaw s) (y : Bay) (d : Nat) (byTime : Bool)
    (hpast : s.shotStage y ≠ some .charging) : ChargeLaw (s.makeCured y d byTime) :=
  h.advance y .cured hpast

theorem ChargeLaw.judgeCured (h : ChargeLaw s) (y : Bay) (sh : Shot) (r : Recipe)
    (hpast : s.shotStage y ≠ some .charging) : ChargeLaw (s.judgeCured y sh r) := by
  unfold State.judgeCured
  split
  · exact h.makeCured y _ false hpast
  · split
    · exact (h.addExc y .undercure).makeCured y _ true (by rwa [State.addExc_shotStage])
    · exact h

theorem ChargeLaw.judgeOverstay (h : ChargeLaw s) (y : Bay) (sh : Shot) (r : Recipe) :
    ChargeLaw (s.judgeOverstay y sh r) := by
  unfold State.judgeOverstay
  split
  · split
    · exact h.addExc y .overstay
    · exact h
  · exact h

/-- R82 to R84: the judgements on the context that a cure step leaves. -/
theorem ChargeLaw.judgedStep (h : ChargeLaw s) (hget : s.slots.get y = some sh)
    (hsame : sh.SameCharge sh') (hstage : sh'.stage = sh.stage) :
    ChargeLaw (if sh.stage = .closed then (s.setSlot y (some sh')).judgeCured y sh' r
      else (s.setSlot y (some sh')).judgeOverstay y sh' r) := by
  have hstepped := h.setSlot_same hget hsame
  split
  · next hclosed =>
    refine hstepped.judgeCured y sh' r ?_
    simp [State.shotStage, hstage, hclosed]
  · exact hstepped.judgeOverstay y sh' r

theorem ChargeLaw.cureStep (h : ChargeLaw s) (y : Bay) : ChargeLaw (s.cureStep y) := by
  unfold State.cureStep
  split
  · exact h
  · next sh hget =>
    split
    · split
      · exact h
      · dsimp only
        refine h.judgedStep hget ?_ ?_
        · split <;> exact ⟨rfl, rfl, rfl, id⟩
        · split <;> rfl
    · exact h

theorem ChargeLaw.notePowerLimited (h : ChargeLaw s) : ChargeLaw s.notePowerLimited := by
  unfold State.notePowerLimited
  split
  · exact h
  · split
    · exact h.addExc _ .powerLimited
    · exact h

theorem ChargeLaw.heatPeriod (h : ChargeLaw s) : ChargeLaw s.heatPeriod := by
  have hstages : ChargeLaw s.heatStages := (h.of_charges (by simp)).notePowerLimited
  have hcured := (hstages.cureStep .a).cureStep .b
  exact hcured.of_charges ((State.idleTick_charges _).trans (State.handFlags_charges _ _))

/-! ### Press reports -/

/-- R110: the shot a CLOSED report closes is CHARGED. -/
theorem State.closingBay_shotStage (hclosing : s.closingBay = some y) :
    s.shotStage y = some .charged := by
  unfold State.closingBay at hclosing
  split at hclosing
  · split at hclosing
    · next hstage =>
      cases hclosing
      exact hstage
    · cases hclosing
  · cases hclosing

theorem ChargeLaw.closeShot (h : ChargeLaw s) : ChargeLaw s.closeShot := by
  unfold State.closeShot
  split
  · exact h
  · next y hclosing =>
    have hpast : s.shotStage y ≠ some .charging := by
      rw [State.closingBay_shotStage hclosing]
      decide
    split
    · exact ChargeLaw.advance (s := { s with permit.closeGrant := none }) h y .closed hpast
    · refine ChargeLaw.advance ?_ y .closed ?_
      · exact h.addExc y .closedUnpermitted
      · rwa [State.shotStage_of_charges (State.postAll_charges _ _), State.addExc_shotStage]

theorem ChargeLaw.pressForce (h : ChargeLaw s) (force : Nat) (y : Bay) :
    ChargeLaw (s.pressForce force y) := by
  unfold State.pressForce
  split
  · exact h
  · next sh hget =>
    split
    · exact h.setSlot_same hget ⟨rfl, rfl, rfl, id⟩
    · exact h

theorem ChargeLaw.openShot (h : ChargeLaw s) (y : Bay) : ChargeLaw (s.openShot y) := by
  unfold State.openShot
  split
  · next hstage => exact (h.addExc y .earlyOpen).advance y .opened (by simp [hstage])
  · next hstage => exact h.advance y .opened (by simp [hstage])
  all_goals exact h

/-- R109: the seven steps of a press report, in their order. -/
theorem ChargeLaw.reportPress (h : ChargeLaw s) (x : PressState) (force : Option Nat) :
    ChargeLaw (s.reportPress x force) := by
  have h1 := h.of_charges (s.setPress_charges x)
  have h2 := ChargeLaw.ite (s.permit.press = .open ∧ x ≠ .open)
    (h1.of_charges (State.withdrawShuttle_charges _ 3)) h1
  have h3 := ChargeLaw.ite (x = .opening) (h2.of_charges (State.withdrawClose_charges _ 6 0)) h2
  have h4 := ChargeLaw.ite (x = .closed) h3.closeShot h3
  unfold State.reportPress
  refine ChargeLaw.of_charges ?_ (State.promoteBoth_charges _)
  cases force with
  | none => exact .ite (x = .open) ((h4.openShot .a).openShot .b) h4
  | some f =>
    have h5 := (h4.pressForce f .a).pressForce f .b
    exact .ite (x = .open) ((h5.openShot .a).openShot .b) h5

theorem ChargeLaw.reportPressAct (h : ChargeLaw s) (state : Byte) (force : Option (BitVec 16)) :
    ChargeLaw (reportPressAct state force s).1 := by
  unfold Machine.reportPressAct
  split
  · exact h
  · exact h.reportPress _ _

/-! ### The LOADER's requests -/

/-- R15: a shot opens with an empty list. -/
theorem ChargeLaw.openCharge (h : ChargeLaw s) (y : Bay) (n : Nat) (i : Ix16) (r : Recipe) :
    ChargeLaw (s.openCharge y n i r) := by
  have hopened : ChargeLaw (s.setSlot y (some ((Shot.opening n y i r (s.recipes.get i).revision
      (s.bays.get y).mouldId s.stamp).marked s.stamp))) := by
    refine h.setSlot fun sh r' hnew _ => ?_
    cases hnew
    exact Shot.FitsRecipe.marked (.of_nil rfl rfl rfl) s.stamp
  exact hopened.mapSlotUse i (· + 1)

theorem ChargeLaw.chargeBeginAct (h : ChargeLaw s) (bay : Byte) :
    ChargeLaw (chargeBeginAct bay s).1 := by
  have hwoken := h.of_charges s.wake_charges
  unfold Machine.chargeBeginAct
  split
  · exact h
  · split
    · exact hwoken
    · exact hwoken.openCharge _ _ _ _

theorem State.chargingShot_stage (hsome : s.chargingShot y = some sh) : sh.stage = .charging := by
  unfold State.chargingShot at hsome
  split at hsome
  · split at hsome
    · next hstage =>
      cases hsome
      exact hstage
    · cases hsome
  · cases hsome

/-- R104 to R106: the shot whose list is judged is in CHARGING, and the piece is its last. -/
theorem State.judgeList_charging {x : Piece} (hok : s.judgeList y = .ok (sh, x)) :
    sh.stage = .charging ∧ sh.pieces.getLast? = some x := by
  unfold State.judgeList at hok
  split at hok
  · cases hok
  · next hcharging =>
    split at hok
    · cases hok
    · split at hok
      · cases hok
      · next hlast =>
        cases hok
        exact ⟨State.chargingShot_stage hcharging, hlast⟩

theorem ChargeLaw.removePieceAct (h : ChargeLaw s) (bay : Byte) :
    ChargeLaw (removePieceAct bay s).1 := by
  unfold Machine.removePieceAct
  split
  · exact h
  · split
    · exact h
    · next hok =>
      obtain ⟨hstage, hlast⟩ := State.judgeList_charging hok
      exact h.setSlot_some (State.judgeList_ok hok) rfl fun _ _ hfits => hfits.dropPiece hlast hstage

theorem ChargeLaw.discardChargeAct (h : ChargeLaw s) (bay : Byte) :
    ChargeLaw (discardChargeAct bay s).1 := by
  unfold Machine.discardChargeAct
  split
  · exact h
  · split
    · exact h
    · next hok =>
      obtain ⟨hstage, -⟩ := State.judgeList_charging hok
      exact h.setSlot_some (State.judgeList_ok hok) rfl fun _ _ _ => .of_nil rfl rfl hstage

/-- R106: a charge that is neither UNDER nor OVER is within the window. -/
theorem ChargeLaw.finishCharge (h : ChargeLaw s) (hget : s.slots.get y = some sh) :
    ChargeLaw (s.finishCharge y sh).1 := by
  unfold State.finishCharge
  split
  · exact h
  · next r hrecipe =>
    split
    · exact h
    · next hlow =>
      split
      · exact h
      · next hhigh =>
        refine h.advance_of_window y .charged fun sh' r' hget' hrecipe' => ?_
        cases hget.symm.trans hget'
        cases hrecipe.symm.trans hrecipe'
        exact ⟨Int.not_lt.1 hlow, Int.not_lt.1 hhigh⟩

theorem ChargeLaw.chargeDoneAct (h : ChargeLaw s) (bay : Byte) :
    ChargeLaw (chargeDoneAct bay s).1 := by
  unfold Machine.chargeDoneAct
  split
  · exact h
  · split
    · exact h
    · next hok => exact h.finishCharge (State.judgeList_ok hok)

/-! ### The requests on recipes and shots -/

/-- R31: no open shot names a recipe slot whose in-use count is 0. -/
theorem UseLaw.not_named (huse : UseLaw s) {i : Ix16} (hfree : (s.recipes.get i).inUse = 0)
    (hget : s.slots.get y = some sh) : sh.recipeSlot ≠ i := by
  rintro rfl
  have hcount := huse sh.recipeSlot
  have hnamed : s.names y sh.recipeSlot = true := by
    simp [State.names, hget]
  rw [hfree] at hcount
  cases y with
  | a =>
    rw [if_pos hnamed] at hcount
    omega
  | b =>
    rw [if_pos hnamed] at hcount
    omega

/-- R27, R29: a slot that no open shot names may take any contents. -/
theorem ChargeLaw.setRecipe (h : ChargeLaw s) (huse : UseLaw s) {i : Ix16}
    (hfree : (s.recipes.get i).inUse = 0) (x : RecipeSlot) :
    ChargeLaw { s with recipes := s.recipes.set i x } := by
  intro y sh r hget hrecipe
  refine h y sh r hget ?_
  simp only [State.shotRecipe, State.recipeAt, Hex.get_set] at hrecipe ⊢
  rwa [if_neg (huse.not_named hfree hget).symm] at hrecipe

/-- R27, check 2: a write that passes its checks finds the slot's in-use count at 0. -/
theorem State.judgeWrite_free {i : Ix16} (hok : s.judgeWrite i r = none) :
    (s.recipes.get i).inUse = 0 := by
  unfold State.judgeWrite at hok
  split at hok
  · cases hok
  · next hfree => exact Nat.eq_zero_of_not_pos hfree

theorem ChargeLaw.recipeWriteAct (h : ChargeLaw s) (huse : UseLaw s) (slot : Byte)
    (fields : RawRecipe) : ChargeLaw (recipeWriteAct slot fields s).1 := by
  unfold Machine.recipeWriteAct
  split
  · exact h
  · split
    · exact h
    · split
      · exact h
      · next hok =>
        exact (h.setRecipe huse (State.judgeWrite_free hok) _).of_charges
          (State.rederiveZones_charges _)

theorem ChargeLaw.recipeEraseAct (h : ChargeLaw s) (huse : UseLaw s) (slot : Byte) :
    ChargeLaw (recipeEraseAct slot s).1 := by
  unfold Machine.recipeEraseAct
  split
  · exact h
  · dsimp only
    split
    · exact h
    · next hfree =>
      split
      · exact h
      · split
        · exact h
        · exact h.setRecipe huse (Nat.eq_zero_of_not_pos hfree) _

theorem ChargeLaw.abortShot (h : ChargeLaw s) (y : Bay) : ChargeLaw (s.abortShot y) := by
  have hweigh : (s.abortWeigh y).charges = s.charges := by
    unfold State.abortWeigh
    split <;> rfl
  have hclose : ((s.abortWeigh y).abortClose y).charges = s.charges := by
    obtain ⟨_, heq⟩ := (s.abortWeigh y).abortClose_shape y
    rw [heq]
    exact hweigh
  have heject : ChargeLaw (((s.abortWeigh y).abortClose y).abortEject y) := by
    unfold State.abortEject
    split
    · exact (h.of_charges hclose).recordPeak y
    · exact h.of_charges hclose
  exact heject.addExc y .aborted

theorem ChargeLaw.shotAbortAct (h : ChargeLaw s) (bay : Byte) : ChargeLaw (shotAbortAct bay s).1 := by
  unfold Machine.shotAbortAct
  split
  · exact h
  · split
    · exact h
    · exact (h.abortShot _).fileShot _ .aborted

/-! ### The end of a start -/

/-- R193, R20: a warm start files the open shots; a cold start empties the slots. -/
theorem ChargeLaw.endStart (h : ChargeLaw s) (k : StartKind) (image : List Byte) :
    ChargeLaw (s.endStart k image) := by
  have hsetUp : ChargeLaw (s.setUpBlocks (loadImage image)) := h
  have hcold : ChargeLaw (s.setUpBlocks (loadImage image)).coldRetained :=
    .of_empty fun y => by cases y <;> rfl
  have hwarm : ChargeLaw ((s.setUpBlocks (loadImage image)).startFilings k) :=
    (((hsetUp.addExc .a _).fileShot .a .interrupted).addExc .b _).fileShot .b .interrupted
  refine ChargeLaw.of_charges (ChargeLaw.ite (k = .cold) hcold hwarm) ?_
  exact (State.startNotices_charges (State.startSupply _) k).trans (State.rederiveZones_charges _)

/-! ### The commands -/

/-- R107: every command keeps the law. -/
theorem ChargeLaw.exec (h : ChargeLaw s) (hweigh : WeighLaw s) (huse : UseLaw s)
    (heject : EjectLaw s) (c : Instr) : ∃ u, exec c s = .next u ∧ ChargeLaw u := by
  cases c with
  | nop | identify | readShot | readBay | readZone | readCell | recipeRead | historyFind | readNode
  | historyNext | clockSet => exact ⟨_, rfl, h.serve h⟩
  | readNotice p => exact ⟨_, rfl, h.serve (h.of_charges (readNoticeAct_charges s p))⟩
  | subscribe p level codes =>
    exact ⟨_, rfl, h.serve (h.of_charges (subscribeAct_charges s p level codes))⟩
  | portStatus p named => exact ⟨_, rfl, h.serve (h.of_charges (portStatusAct_charges s p named))⟩
  | holdAdd p scope reason =>
    exact ⟨_, rfl, h.serve (h.of_charges (holdAddAct_charges s p scope reason))⟩
  | holdRemove p scope reason =>
    exact ⟨_, rfl, h.serve (h.of_charges (holdRemoveAct_charges s p scope reason))⟩
  | holdClear p => exact ⟨_, rfl, h.serve (h.of_charges (s.removeHolds_charges _))⟩
  | reportPress p state force => exact ⟨_, rfl, h.serve (h.reportPressAct state force)⟩
  | closeRequest p => exact ⟨_, rfl, h.serve (h.of_charges (closeRequestAct_charges s))⟩
  | shuttleRequest p target =>
    exact ⟨_, rfl, h.serve (h.of_charges (shuttleRequestAct_charges s target))⟩
  | shuttleDone p position =>
    exact ⟨_, rfl, h.serve (h.of_charges (shuttleDoneAct_charges s position))⟩
  | areaEnter p area => exact ⟨_, rfl, h.serve (h.of_charges (areaEnterAct_charges s p area))⟩
  | areaLeave p area => exact ⟨_, rfl, h.serve (h.of_charges (areaLeaveAct_charges s p area))⟩
  | forceLeave p area => exact ⟨_, rfl, h.serve (h.of_charges (forceLeaveAct_charges s area))⟩
  | chargeBegin p bay => exact ⟨_, rfl, h.serve (h.chargeBeginAct bay)⟩
  | weighPiece p bay => exact ⟨_, rfl, h.serve (h.of_charges (weighPieceAct_charges s bay))⟩
  | weighCancel p => exact ⟨_, rfl, h.serve (h.of_charges (weighCancelAct_charges s))⟩
  | removePiece p bay => exact ⟨_, rfl, h.serve (h.removePieceAct bay)⟩
  | discardCharge p bay => exact ⟨_, rfl, h.serve (h.discardChargeAct bay)⟩
  | chargeDone p bay => exact ⟨_, rfl, h.serve (h.chargeDoneAct bay)⟩
  | tare p => exact ⟨_, rfl, h.serve (h.of_charges (tareAct_charges s p))⟩
  | ejectBegin p bay => exact ⟨_, rfl, h.serve (h.ejectBeginAct bay)⟩
  | ejectEnd p bay => exact ⟨_, rfl, h.serve (h.ejectEndAct heject bay)⟩
  | partTaken p bay condition => exact ⟨_, rfl, h.serve (h.partTakenAct bay condition)⟩
  | releaseApplied p target =>
    exact ⟨_, rfl, h.serve (h.of_charges (releaseAppliedAct_charges s p target))⟩
  | recipeWrite p slot fields => exact ⟨_, rfl, h.serve (h.recipeWriteAct huse slot fields)⟩
  | recipeErase p slot => exact ⟨_, rfl, h.serve (h.recipeEraseAct huse slot)⟩
  | bayBind p bay mould slot =>
    exact ⟨_, rfl, h.serve (h.of_charges (bayBindAct_charges s bay mould slot))⟩
  | bayUnbind p bay => exact ⟨_, rfl, h.serve (h.of_charges (bayUnbindAct_charges s bay))⟩
  | mouldChecked p bay => exact ⟨_, rfl, h.serve (h.of_charges (mouldCheckedAct_charges s bay))⟩
  | shotAbort p bay => exact ⟨_, rfl, h.serve (h.shotAbortAct bay)⟩
  | serialBase p value => exact ⟨_, rfl, h.serve (h.of_charges (serialBaseAct_charges s value))⟩
  | heatMode p code => exact ⟨_, rfl, h.serve (h.of_charges (heatModeAct_charges s code))⟩
  | park p => exact ⟨_, rfl, h.serve (h.of_charges (parkAct_charges s))⟩
  | zoneEnable p zone => exact ⟨_, rfl, h.serve (h.of_charges (zoneAct_charges s zone true))⟩
  | zoneDisable p zone => exact ⟨_, rfl, h.serve (h.of_charges (zoneAct_charges s zone false))⟩
  | historyAck p serial => exact ⟨_, rfl, h.serve (h.of_charges (historyAckAct_charges s serial))⟩
  | dispositionSet p serial disposition =>
    exact ⟨_, rfl, h.serve (h.of_charges (dispositionSetAct_charges s serial disposition))⟩
  | configSet p tag data => exact ⟨_, rfl, h.serve (h.of_charges (configSetAct_charges s tag data))⟩
  | frameStart p =>
    obtain ⟨u, hu, hsame⟩ := execFrameStart_charges s p
    exact ⟨u, hu, h.of_charges hsame⟩
  | frameEnd p bytes spare => exact ⟨_, rfl, h.of_charges (s.frameEnds_charges p bytes spare)⟩
  | frameTimeout held => exact ⟨_, rfl, h.of_charges (s.frameExpires_charges held.port held.clocked)⟩
  | unknownCode p code params =>
    exact ⟨_, rfl, .ite _ (h.of_charges (s.frameEnds_charges p _ 0)) h⟩
  | resultReturn p => exact ⟨_, rfl, h.event (h.of_charges (s.returnResult_charges p))⟩
  | noticeAge p => exact ⟨_, rfl, h.event h⟩
  | silenceTimerExpiry p => exact ⟨_, rfl, h.event (h.silenceExpires p)⟩
  | heatPeriod => exact ⟨_, rfl, h.event h.heatPeriod⟩
  | idleTimerExpiry => exact ⟨_, rfl, h.event (h.of_charges s.idleExpires_charges)⟩
  | heaterSwitchOff z => exact ⟨_, rfl, h.event (h.of_charges (s.switchOff_charges z))⟩
  | roundBegin => exact ⟨_, rfl, h.event (h.of_charges s.beginRound_charges)⟩
  | pollReply rep => exact ⟨_, rfl, h.event (h.takeReply hweigh rep)⟩
  | replyTimeout => exact ⟨_, rfl, h.event h.missReply⟩
  | weighTimerExpiry => exact ⟨_, rfl, h.event (h.of_charges s.weighExpires_charges)⟩
  | ejectionTimerExpiry => exact ⟨_, rfl, h.event (h.ejectExpires heject)⟩
  | pfwarnAsserted =>
    have hpin : ChargeLaw { s with pins.pfwarn := true } := h
    exact ⟨_, rfl, hpin.event (hpin.of_charges (State.enterWarning_charges _))⟩
  | pfwarnDeasserted =>
    have hpin : ChargeLaw { s with pins.pfwarn := false } := h
    exact ⟨_, rfl, hpin.event (hpin.of_charges (State.leaveWarning_charges _))⟩
  | mainLoss | retainLoss | resetAsserted | clk32Stopped | clk32Resumed => exact ⟨_, rfl, h⟩
  | restart | resetReleased | cellTimeSecond => exact ⟨_, rfl, .ite _ h h⟩
  | mainRise => exact ⟨_, rfl, .ite _ h (.ite _ h h)⟩
  | configLoadEnd image =>
    refine ⟨_, rfl, ?_⟩
    split
    · exact h.endStart _ image
    · exact h
    · exact h

/-- Settles O50, command by command from what each of the operations keeps; the step takes the
command off the queue, which none of the laws reads. -/
theorem chargeLawIsKept : Obligations.ChargeLawIsKept := by
  unfold Obligations.ChargeLawIsKept
  intro s t hweigh huse _ heject h hstep
  unfold Machine.step at hstep
  split at hstep
  · cases hstep
    exact h
  · next c rest _ =>
    obtain ⟨u, hu, hlaw⟩ := ChargeLaw.exec (s := { s with pending := rest }) h hweigh huse heject c
    cases hu.symm.trans hstep
    exact hlaw

end Sys2Proof.Machine

/-!
R116, R120: the laws of the two permits. Each law has a part that the permit block keeps itself
(press, position, holds, areas, the other grant) and the close permit has a second one that other
blocks keep: the shot under the press in CHARGED, no upper release due, the mode RUN and the curing
zones at temperature. So every operation is judged on these two parts. Most leave both as they are;
the heat block and a filing may take the second part away, and then withdraw the close grant; the
permit block's own operations move the first part. The end of an ejection and a change of a recipe
leave the second part alone only by the laws of the open shots: they are the premise `p` of what
follows, which the law of the shuttle permit does without.
-/

namespace Sys2Proof.Machine

open Sys2Proof

/-! ### The two parts of the laws -/

/-- R131: the hold set, which the permit block alone determines. -/
def Permit.holds (m : Permit) : List Hold := m.stationHolds ++ m.selfHolds.entries

/-- R116: what a shuttle grant asks. -/
structure Permit.AllowsShuttle (m : Permit) : Prop where
  press : m.press = .open
  areas : ∀ r, (m.areas.get r).holder = none
  holds : ∀ h ∈ m.holds, h.scope ≠ .cell
  close : m.closeGrant = none

/-- R120: what a close grant for a bay asks of the permit block. -/
structure Permit.AllowsClose (m : Permit) (y : Bay) : Prop where
  press : m.press = .open ∨ m.press = .closing
  position : m.position.inBay = some y
  holds : ∀ h ∈ m.holds, h.scope ≠ .cell ∧ h.scope ≠ .bay y
  area : (m.areas.get .press).holder = none
  shuttle : m.shuttleGrant = none

/-- What R120 reads of the other blocks. -/
structure Readiness where
  charged : Bay → Bool
  upperDue : Bool
  mode : HeatMode
  atTemp : ZoneId → Bool

def State.readiness (s : State) : Readiness where
  charged y := decide (s.shotStage y = some .charged)
  upperDue := s.upperDue
  mode := s.heat.mode
  atTemp z := (s.heat.zones.get z).atTemp

/-- R120: what a close grant for a bay asks of the other blocks. -/
structure Readiness.Allows (q : Readiness) (y : Bay) : Prop where
  charged : q.charged y = true
  due : q.upperDue = false
  mode : q.mode = .run
  atTemp : ∀ z ∈ curingZones y, q.atTemp z = true

theorem shuttleLaw_iff {s : State} :
    ShuttleLaw s ↔ (s.permit.shuttleGrant.isSome = true → s.permit.AllowsShuttle) :=
  ⟨fun h hgrant =>
    let ⟨hpress, hareas, hholds, hclose⟩ := h hgrant
    ⟨hpress, hareas, hholds, hclose⟩,
   fun h hgrant =>
    let ⟨hpress, hareas, hholds, hclose⟩ := h hgrant
    ⟨hpress, hareas, hholds, hclose⟩⟩

theorem State.charged_iff {s : State} {y : Bay} :
    s.readiness.charged y = true ↔ s.shotStage y = some .charged :=
  decide_eq_true_iff

theorem closeLaw_iff {s : State} :
    CloseLaw s ↔ ∀ y, s.permit.closeGrant = some y →
      s.permit.AllowsClose y ∧ s.readiness.Allows y := by
  constructor
  · intro h y hgrant
    obtain ⟨hpress, hposition, hstage, hholds, harea, hdue, hmode, htemp, hshuttle⟩ := h y hgrant
    exact ⟨⟨hpress, hposition, hholds, harea, hshuttle⟩,
      ⟨State.charged_iff.2 hstage, hdue, hmode, htemp⟩⟩
  · intro h y hgrant
    obtain ⟨⟨hpress, hposition, hholds, harea, hshuttle⟩, ⟨hstage, hdue, hmode, htemp⟩⟩ :=
      h y hgrant
    exact ⟨hpress, hposition, State.charged_iff.1 hstage, hholds, harea, hdue, hmode, htemp,
      hshuttle⟩

/-! ### What an operation keeps -/

/-- Both laws pass from one state to another, the close permit's under the premise `p`. -/
structure KeepsPermits (p : Prop) (s t : State) : Prop where
  shuttle : ShuttleLaw s → ShuttleLaw t
  close : p → CloseLaw s → CloseLaw t

/-- The grants that stand after a change of the permit block stood before it, and keep what they ask
of the block. -/
structure Permit.Narrows (m n : Permit) : Prop where
  shuttle : n.shuttleGrant.isSome = true →
    m.shuttleGrant.isSome = true ∧ (m.AllowsShuttle → n.AllowsShuttle)
  close : ∀ y, n.closeGrant = some y →
    m.closeGrant = some y ∧ (m.AllowsClose y → n.AllowsClose y)

/-- A permit block without a grant. -/
structure Permit.Ungranted (m : Permit) : Prop where
  close : m.closeGrant = none
  shuttle : m.shuttleGrant = none

/-- The permit block as it was, but that a close grant may be withdrawn. -/
def Permit.Eased (m n : Permit) : Prop := n = m ∨ n = { m with closeGrant := none }

/-- The permit block is eased at most, and a close grant that stands keeps what it asks of the other
blocks. -/
structure EasesPermits (p : Prop) (s t : State) : Prop where
  permit : s.permit.Eased t.permit
  ready : p → ∀ y, t.permit.closeGrant = some y → s.permit.AllowsClose y →
    s.readiness.Allows y → t.readiness.Allows y

variable {p : Prop} {s t u : State} {m n k : Permit} {y : Bay}

theorem Permit.Narrows.refl (m : Permit) : m.Narrows m :=
  ⟨fun hgrant => ⟨hgrant, id⟩, fun _ hgrant => ⟨hgrant, id⟩⟩

theorem Permit.Narrows.trans (h : m.Narrows n) (h' : n.Narrows k) : m.Narrows k where
  shuttle hgrant :=
    let ⟨hn, hnk⟩ := h'.shuttle hgrant
    let ⟨hm, hmn⟩ := h.shuttle hn
    ⟨hm, hnk ∘ hmn⟩
  close y hgrant :=
    let ⟨hn, hnk⟩ := h'.close y hgrant
    let ⟨hm, hmn⟩ := h.close y hn
    ⟨hm, hnk ∘ hmn⟩

theorem Permit.Narrows.of_ungranted (h : n.Ungranted) : m.Narrows n where
  shuttle hgrant := by simp [h.shuttle] at hgrant
  close y hgrant := by simp [h.close] at hgrant

theorem Permit.Narrows.of_eased (h : m.Eased n) : m.Narrows n := by
  obtain rfl | rfl := h
  · exact .refl _
  · exact ⟨fun hgrant => ⟨hgrant, fun ⟨hpress, hareas, hholds, _⟩ => ⟨hpress, hareas, hholds, rfl⟩⟩,
      fun _ hnone => nomatch hnone⟩

theorem Permit.Eased.refl (m : Permit) : m.Eased m := .inl rfl

theorem Permit.Eased.trans (h : m.Eased n) (h' : n.Eased k) : m.Eased k := by
  obtain rfl | rfl := h
  · exact h'
  · obtain rfl | rfl := h'
    · exact .inr rfl
    · exact .inr rfl

/-- The form in which the shapes of the operations say it. -/
theorem Permit.Eased.of_grant {g : Option Bay} (hg : g = m.closeGrant ∨ g = none) :
    m.Eased { m with closeGrant := g } := by
  obtain rfl | rfl := hg
  · exact .inl rfl
  · exact .inr rfl

theorem Permit.Eased.closeGrant (h : m.Eased n) (hgrant : n.closeGrant = some y) : n = m := by
  obtain rfl | rfl := h
  · rfl
  · cases hgrant

theorem Permit.Eased.ungranted (h : m.Eased n) (hnone : m.Ungranted) : n.Ungranted := by
  obtain rfl | rfl := h
  · exact hnone
  · exact ⟨rfl, hnone.shuttle⟩

namespace KeepsPermits

theorem refl (s : State) : KeepsPermits p s s := ⟨id, fun _ => id⟩

theorem trans (h : KeepsPermits p s t) (h' : KeepsPermits p t u) : KeepsPermits p s u :=
  ⟨h'.shuttle ∘ h.shuttle, fun hp => h'.close hp ∘ h.close hp⟩

theorem ite (c : Prop) [Decidable c] (h : KeepsPermits p s t) (h' : KeepsPermits p s u) :
    KeepsPermits p s (if c then t else u) := by
  split
  · exact h
  · exact h'

/-- A change of the permit block that narrows the grants, with what the other blocks owe the close
grant. -/
theorem of_narrows (h : s.permit.Narrows t.permit)
    (hready : p → ∀ y, t.permit.closeGrant = some y → s.permit.AllowsClose y →
      s.readiness.Allows y → t.readiness.Allows y) : KeepsPermits p s t where
  shuttle hlaw := shuttleLaw_iff.2 fun hgrant =>
    let ⟨hs, hst⟩ := h.shuttle hgrant
    hst (shuttleLaw_iff.1 hlaw hs)
  close hp hlaw := closeLaw_iff.2 fun y hgrant =>
    let ⟨hs, hst⟩ := h.close y hgrant
    let ⟨hallows, hr⟩ := closeLaw_iff.1 hlaw y hs
    ⟨hst hallows, hready hp y hgrant hallows hr⟩

theorem of_ungranted (h : t.permit.Ungranted) : KeepsPermits p s t :=
  .of_narrows (.of_ungranted h) fun _ y hgrant => by simp [h.close] at hgrant

/-- A change of the permit block alone. -/
theorem of_permit (hready : t.readiness = s.readiness) (h : s.permit.Narrows t.permit) :
    KeepsPermits p s t :=
  .of_narrows h fun _ _ _ _ hr => hready ▸ hr

end KeepsPermits

namespace EasesPermits

theorem keeps (h : EasesPermits p s t) : KeepsPermits p s t :=
  .of_narrows (.of_eased h.permit) h.ready

theorem refl (s : State) : EasesPermits p s s := ⟨.refl _, fun _ _ _ _ hr => hr⟩

theorem trans (h : EasesPermits p s t) (h' : EasesPermits p t u) : EasesPermits p s u where
  permit := h.permit.trans h'.permit
  ready hp y hgrant hs hr := by
    have ht := h'.permit.closeGrant hgrant
    rw [ht] at hgrant
    refine h'.ready hp y (ht ▸ hgrant) ?_ (h.ready hp y hgrant hs hr)
    rwa [h.permit.closeGrant hgrant]

theorem ite (c : Prop) [Decidable c] (h : EasesPermits p s t) (h' : EasesPermits p s u) :
    EasesPermits p s (if c then t else u) := by
  split
  · exact h
  · exact h'

end EasesPermits

/-- The permit block and what R120 reads of the others. -/
def State.permitBasis (s : State) : Permit × Readiness := (s.permit, s.readiness)

theorem State.permitBasis_eq (hpermit : t.permit = s.permit)
    (hcharged : ∀ y, t.shotStage y = some .charged ↔ s.shotStage y = some .charged)
    (hdue : t.upperDue = s.upperDue) (hmode : t.heat.mode = s.heat.mode)
    (htemp : ∀ z, (t.heat.zones.get z).atTemp = (s.heat.zones.get z).atTemp) :
    t.permitBasis = s.permitBasis := by
  simp only [State.permitBasis, State.readiness, hpermit, hcharged, hdue, hmode, htemp]

theorem EasesPermits.of_basis (h : t.permitBasis = s.permitBasis) : EasesPermits p s t := by
  obtain ⟨hpermit, hready⟩ := Prod.mk.inj h
  exact ⟨.inl hpermit, fun _ _ _ _ hr => hready ▸ hr⟩

theorem EasesPermits.then_basis (h : EasesPermits p s t) (hsame : u.permitBasis = t.permitBasis) :
    EasesPermits p s u :=
  h.trans (.of_basis hsame)

theorem EasesPermits.from_basis (hsame : t.permitBasis = s.permitBasis) (h : EasesPermits p t u) :
    EasesPermits p s u :=
  (EasesPermits.of_basis hsame).trans h

theorem KeepsPermits.of_basis (h : t.permitBasis = s.permitBasis) : KeepsPermits p s t :=
  (EasesPermits.of_basis h).keeps

theorem KeepsPermits.then_basis (h : KeepsPermits p s t) (hsame : u.permitBasis = t.permitBasis) :
    KeepsPermits p s u :=
  h.trans (.of_basis hsame)

theorem KeepsPermits.from_basis (hsame : t.permitBasis = s.permitBasis) (h : KeepsPermits p t u) :
    KeepsPermits p s u :=
  (KeepsPermits.of_basis hsame).trans h

/-! ### What leaves both parts as they are -/

section Frames

variable (s : State)

@[simp] theorem State.setPort_permitBasis (i : PortId) (q : Port) :
    (s.setPort i q).permitBasis = s.permitBasis := rfl

@[simp] theorem State.setBuffer_permitBasis (i : PortId) (b : Buffer) :
    (s.setBuffer i b).permitBasis = s.permitBasis := rfl

@[simp] theorem State.setFrame_permitBasis (i : PortId) (f : Option Frame) :
    (s.setFrame i f).permitBasis = s.permitBasis := rfl

@[simp] theorem State.postRole_permitBasis (r : Role) (n : Notice) :
    (s.postRole r n).permitBasis = s.permitBasis := rfl

@[simp] theorem State.postAll_permitBasis (n : Notice) :
    (s.postAll n).permitBasis = s.permitBasis := rfl

@[simp] theorem State.postSubs_permitBasis (n : Notice) :
    (s.postSubs n).permitBasis = s.permitBasis := rfl

theorem State.setSlot_shotStage (y z : Bay) (o : Option Shot) :
    (s.setSlot y o).shotStage z = if y = z then o.map Shot.stage else s.shotStage z := by
  unfold State.shotStage
  rw [State.setSlot_slots, PerBay.get_set]
  split <;> rfl

/-- Another context in a slot, CHARGED exactly if the one before was. -/
theorem State.setSlot_permitBasis (y : Bay) {o : Option Shot}
    (h : o.map Shot.stage = some .charged ↔ s.shotStage y = some .charged) :
    (s.setSlot y o).permitBasis = s.permitBasis := by
  refine State.permitBasis_eq rfl (fun z => ?_) rfl rfl fun _ => rfl
  rw [State.setSlot_shotStage]
  split
  · next hz => rw [← hz, h]
  · rfl

theorem State.mapShot_permitBasis (y : Bay) {f : Shot → Shot}
    (hf : ∀ sh, (f sh).stage = sh.stage) : (s.mapShot y f).permitBasis = s.permitBasis := by
  refine s.setSlot_permitBasis y ?_
  simp [State.shotStage, Function.comp_def, hf]

@[simp] theorem State.addExc_permitBasis (y : Bay) (e : Exc) :
    (s.addExc y e).permitBasis = s.permitBasis :=
  s.mapShot_permitBasis y fun _ => rfl

theorem Shot.enter_stage (sh : Shot) (st : Stage) (c : Timestamp) :
    (sh.enter st c).stage = st := by
  cases st <;> rfl

theorem Shot.marked_stage (sh : Shot) (c : Timestamp) : (sh.marked c).stage = sh.stage := by
  unfold Shot.marked
  split <;> rfl

/-- R6: a stage advance that neither leaves nor enters CHARGED. -/
theorem State.advance_permitBasis (y : Bay) {st : Stage} (hfrom : s.shotStage y ≠ some .charged)
    (hto : st ≠ .charged) : (s.advance y st).permitBasis = s.permitBasis := by
  unfold State.advance
  split
  · rfl
  · refine s.setSlot_permitBasis y ?_
    simp [Shot.marked_stage, Shot.enter_stage, hfrom, hto]

@[simp] theorem State.advance_permit (y : Bay) (st : Stage) :
    (s.advance y st).permit = s.permit := by
  obtain ⟨_, _, heq⟩ := s.advance_shape y st
  exact heq ▸ rfl

@[simp] theorem State.idleSettled_permitBasis : s.idleSettled.permitBasis = s.permitBasis := by
  obtain ⟨_, heq⟩ := s.idleSettled_shape
  exact heq ▸ rfl

@[simp] theorem State.setPark_permitBasis (v : Bool) :
    (s.setPark v).permitBasis = s.permitBasis := rfl

@[simp] theorem State.holdChanged_permitBasis (v : Bool) (hs : List Hold) :
    (s.holdChanged v hs).permitBasis = s.permitBasis := rfl

@[simp] theorem State.judgeNearFull_permitBasis : s.judgeNearFull.permitBasis = s.permitBasis := by
  obtain ⟨_, _, heq⟩ := s.judgeNearFull_shape
  exact heq ▸ rfl

/-! ### Weighing and demoulding -/

theorem State.weighLost_permitBasis (a : Nat) : (s.weighLost a).permitBasis = s.permitBasis := by
  unfold State.weighLost
  split <;> rfl

theorem State.endDead_permitBasis : s.endDead.permitBasis = s.permitBasis := by
  unfold State.endDead
  split
  · exact s.weighLost_permitBasis _
  · rfl

theorem State.capture_permitBasis (y : Bay) : (s.capture y).permitBasis = s.permitBasis := by
  unfold State.capture
  dsimp only
  split
  · rfl
  · split
    · rfl
    · exact s.mapShot_permitBasis y fun sh => Shot.marked_stage _ _

theorem State.judgeWeigh_permitBasis : s.judgeWeigh.permitBasis = s.permitBasis := by
  unfold State.judgeWeigh
  split
  · split
    · rfl
    · exact s.capture_permitBasis _
    · rfl
  · rfl

theorem State.weighExpires_permitBasis : s.weighExpires.permitBasis = s.permitBasis := by
  unfold State.weighExpires
  split
  · rfl
  · split <;> rfl

@[simp] theorem State.stopEject_permitBasis (c : StopCause) :
    (s.stopEject c).permitBasis = s.permitBasis := by
  unfold State.stopEject
  split <;> rfl

theorem State.forceArrival_permitBasis (y : Bay) (v : Nat) (overrange : Bool) :
    (s.forceArrival y v overrange).permitBasis = s.permitBasis := by
  unfold State.forceArrival
  split
  · dsimp only
    split
    · simp only [State.postAll_permitBasis, State.addExc_permitBasis, State.stopEject_permitBasis]
      rfl
    · rfl
  · rfl

theorem State.forceLost_permitBasis (y : Bay) (a : Nat) :
    (s.forceLost y a).permitBasis = s.permitBasis := by
  unfold State.forceLost State.blindAlarm
  split
  · simp
  · rfl

theorem State.recordPeak_permitBasis (y : Bay) :
    (s.recordPeak y).permitBasis = s.permitBasis :=
  s.mapShot_permitBasis y fun _ => rfl

theorem State.startEject_permitBasis (y : Bay) (sh : Shot) :
    (s.startEject y sh).permitBasis = s.permitBasis := by
  unfold State.startEject State.blindAlarm
  dsimp only
  split
  · simp only [State.postAll_permitBasis, State.addExc_permitBasis]
    rfl
  · rfl

/-! ### The sensor link -/

theorem State.handLoss_permitBasis (n : Ix16) : (s.handLoss n).permitBasis = s.permitBasis := by
  unfold State.handLoss
  split
  · exact s.weighLost_permitBasis _
  · exact s.forceLost_permitBasis .a _
  · exact s.forceLost_permitBasis .b _
  · rfl

theorem State.nodeMiss_permitBasis (n : Ix16) (r : MissReason) :
    (s.nodeMiss n r).permitBasis = s.permitBasis := by
  unfold State.nodeMiss
  dsimp only
  split
  · exact (State.handLoss_permitBasis _ n).trans rfl
  · rfl

theorem State.loadArrival_permitBasis (c : Chan) (x : LoadSample) :
    (s.loadArrival c x).permitBasis = s.permitBasis := by
  cases c with
  | w => exact (State.judgeWeigh_permitBasis _).trans rfl
  | fa => exact (State.forceArrival_permitBasis _ .a _ _).trans rfl
  | fb => exact (State.forceArrival_permitBasis _ .b _ _).trans rfl

theorem State.deliver_permitBasis (n : Ix16) (d : NodeData) :
    (s.deliver n d).permitBasis = s.permitBasis := by
  unfold State.deliver
  split
  · rfl
  · split
    · exact s.loadArrival_permitBasis _ _
    · rfl

theorem State.nodeGood_permitBasis (n : Ix16) (d : NodeData) :
    (s.nodeGood n d).permitBasis = s.permitBasis := by
  unfold State.nodeGood
  dsimp only
  rw [State.deliver_permitBasis]
  split <;> rfl

theorem State.takeReply_permitBasis (r : NodeReply) :
    (s.takeReply r).permitBasis = s.permitBasis := by
  unfold State.takeReply
  split
  · rfl
  · next n _ =>
    cases s.replyMiss n r with
    | some m => exact s.nodeMiss_permitBasis n m
    | none => exact s.nodeGood_permitBasis n r.data

theorem State.missReply_permitBasis : s.missReply.permitBasis = s.permitBasis := by
  unfold State.missReply
  split
  · rfl
  · exact s.nodeMiss_permitBasis _ .timeout

theorem State.beginRound_permitBasis : s.beginRound.permitBasis = s.permitBasis := by
  unfold State.beginRound
  split <;> rfl

/-! ### Ports and frames -/

@[simp] theorem State.raiseFlag_permitBasis (i : PortId) (n : FlagName) :
    (s.raiseFlag i n).permitBasis = s.permitBasis := by
  obtain ⟨_, heq⟩ := s.raiseFlag_shape i n
  exact heq ▸ rfl

@[simp] theorem State.badFrame_permitBasis (i : PortId) (k : ReplyKind) (n : FlagName) :
    (s.badFrame i k n).permitBasis = s.permitBasis := by
  obtain ⟨_, heq⟩ := s.badFrame_shape i k n
  exact heq ▸ rfl

@[simp] theorem State.lateFrame_permitBasis (i : PortId) (k : ReplyKind) :
    (s.lateFrame i k).permitBasis = s.permitBasis := by
  obtain ⟨_, heq⟩ := s.lateFrame_shape i k
  exact heq ▸ rfl

@[simp] theorem State.consume_permitBasis (i : PortId) (k : ReplyKind) :
    (s.consume i k).permitBasis = s.permitBasis := by
  unfold State.consume
  split <;> rfl

@[simp] theorem State.takeRequest_permitBasis (i : PortId) (code : Byte) (params : List Byte) :
    (s.takeRequest i code params).permitBasis = s.permitBasis := by
  unfold State.takeRequest
  split
  · simp
  · split
    · simp
    · split <;> rfl

theorem State.returnResult_permitBasis (i : PortId) :
    (s.returnResult i).permitBasis = s.permitBasis := by
  unfold State.returnResult
  split <;> rfl

theorem State.loaderLost_permitBasis : s.loaderLost.permitBasis = s.permitBasis := by
  unfold State.loaderLost
  split
  · rfl
  · split <;> rfl
  · rfl

theorem State.extractLost_permitBasis : s.extractLost.permitBasis = s.permitBasis := by
  unfold State.extractLost
  split
  · split
    · simp
    · rfl
  · rfl

theorem readNoticeAct_permitBasis (i : PortId) :
    (readNoticeAct i s).1.permitBasis = s.permitBasis := by
  unfold readNoticeAct
  dsimp only
  split <;> rfl

theorem subscribeAct_permitBasis (i : PortId) (level : Byte) (codes : List Byte) :
    (subscribeAct i level codes s).1.permitBasis = s.permitBasis := by
  unfold subscribeAct
  split
  · rfl
  · split <;> rfl

theorem portStatusAct_permitBasis (i : PortId) (named : Option (Byte × List Byte)) :
    (portStatusAct i named s).1.permitBasis = s.permitBasis := by
  unfold portStatusAct
  split
  · rfl
  · split
    · split
      · exact s.raiseFlag_permitBasis i .permission
      · rfl
    · rfl

/-! ### Shots and the history store -/

theorem weighPieceAct_permitBasis (bay : Byte) :
    (weighPieceAct bay s).1.permitBasis = s.permitBasis := by
  unfold weighPieceAct
  split
  · rfl
  · split
    · rfl
    · split
      · rfl
      · split
        · rfl
        · exact (State.endDead_permitBasis _).trans rfl

theorem weighCancelAct_permitBasis : (weighCancelAct s).1.permitBasis = s.permitBasis := by
  unfold weighCancelAct
  split <;> rfl

theorem tareAct_permitBasis (i : PortId) : (tareAct i s).1.permitBasis = s.permitBasis := by
  unfold tareAct
  split
  · rfl
  · exact (State.endDead_permitBasis _).trans rfl

theorem removePieceAct_permitBasis (bay : Byte) :
    (removePieceAct bay s).1.permitBasis = s.permitBasis := by
  unfold removePieceAct
  split
  · rfl
  · split
    · rfl
    · next hok =>
      refine s.setSlot_permitBasis _ ?_
      simp [State.shotStage, State.judgeList_ok hok, Shot.dropPiece]

theorem discardChargeAct_permitBasis (bay : Byte) :
    (discardChargeAct bay s).1.permitBasis = s.permitBasis := by
  unfold discardChargeAct
  split
  · rfl
  · split
    · rfl
    · next hok =>
      refine s.setSlot_permitBasis _ ?_
      simp [State.shotStage, State.judgeList_ok hok, Shot.discard]

theorem ejectBeginAct_permitBasis (bay : Byte) :
    (ejectBeginAct bay s).1.permitBasis = s.permitBasis := by
  unfold ejectBeginAct
  split
  · rfl
  · split
    · rfl
    · split
      · rfl
      · split
        · rfl
        · split
          · rfl
          · split
            · rfl
            · exact s.startEject_permitBasis _ _

theorem serialBaseAct_permitBasis (value : BitVec 32) :
    (serialBaseAct value s).1.permitBasis = s.permitBasis := by
  unfold serialBaseAct
  split <;> rfl

theorem historyAckAct_permitBasis (serial : BitVec 32) :
    (historyAckAct serial s).1.permitBasis = s.permitBasis := by
  unfold historyAckAct
  split
  · rfl
  · split
    · rfl
    · exact (State.judgeNearFull_permitBasis _).trans rfl

theorem State.dispose_permitBasis (i : Nat) (r : Record) (d : Disposition) :
    (s.dispose i r d).permitBasis = s.permitBasis := by
  unfold State.dispose
  dsimp only
  split
  · exact (State.judgeNearFull_permitBasis _).trans rfl
  · rfl

theorem dispositionSetAct_permitBasis (serial : BitVec 32) (disposition : Byte) :
    (dispositionSetAct serial disposition s).1.permitBasis = s.permitBasis := by
  unfold dispositionSetAct
  split
  · rfl
  · split
    · rfl
    · split
      · rfl
      · split
        · rfl
        · split
          · rfl
          · exact s.dispose_permitBasis _ _ _

/-! ### Within the heat block -/

theorem State.idleTick_permitBasis : s.idleTick.permitBasis = s.permitBasis := by
  unfold State.idleTick
  split <;> rfl

theorem State.switchOff_permitBasis (z : ZoneId) :
    (s.switchOff z).permitBasis = s.permitBasis := by
  unfold State.switchOff
  split <;> rfl

theorem State.cancelPark_permitBasis : s.cancelPark.permitBasis = s.permitBasis := by
  unfold State.cancelPark
  split <;> rfl

@[simp] theorem State.restartTimer_permitBasis (old : Cfg) (i : PortId) :
    (s.restartTimer old i).permitBasis = s.permitBasis := by
  unfold State.restartTimer
  dsimp only
  split <;> rfl

end Frames

/-! ### What may withdraw the close grant -/

theorem State.withdrawClose_permit (s : State) (c z : Nat) :
    (s.withdrawClose c z).permit = { s.permit with closeGrant := none } := by
  obtain ⟨_, heq⟩ := s.withdrawClose_shape c z
  exact heq ▸ rfl

/-- A close grant that is withdrawn asks nothing any more. -/
theorem EasesPermits.of_none (hpermit : s.permit.Eased t.permit)
    (hnone : t.permit.closeGrant = none) : EasesPermits p s t :=
  ⟨hpermit, fun _ y hgrant => by simp [hnone] at hgrant⟩

theorem State.withdrawClose_eases (s : State) (c z : Nat) :
    EasesPermits p s (s.withdrawClose c z) := by
  have hpermit := s.withdrawClose_permit c z
  refine .of_none (.inr hpermit) ?_
  rw [hpermit]

/-- R63, R119: a close grant that the flags leave standing saw no curing zone lose temperature. -/
theorem State.handFlags_granted {old : Zones Zone}
    (hgrant : (s.handFlags old).permit.closeGrant = some y) :
    s.handFlags old = s ∧ ∀ z ∈ curingZones y, (old.get z).atTemp = true →
      (s.heat.zones.get z).atTemp = true := by
  unfold State.handFlags at hgrant ⊢
  cases hclose : s.permit.closeGrant with
  | none => simp [hclose] at hgrant
  | some x =>
    cases hcleared : clearedZones old s.heat.zones x with
    | cons z zs => simp [hclose, hcleared, State.withdrawClose_permit] at hgrant
    | nil =>
      simp only [hclose, hcleared, Option.some.injEq] at hgrant ⊢
      subst hgrant
      refine ⟨trivial, fun z hz htemp => ?_⟩
      have hkept := List.filter_eq_nil_iff.1 hcleared z hz
      simpa [htemp] using hkept

/-- The basis but for the at-temperature flags, which a heat period judges anew. -/
def State.coolBasis (s : State) : Permit × Readiness :=
  (s.permit, { s.readiness with atTemp := fun _ => false })

theorem State.coolBasis_congr (h : t.permitBasis = s.permitBasis) : t.coolBasis = s.coolBasis := by
  obtain ⟨hpermit, hready⟩ := Prod.mk.inj h
  simp only [State.coolBasis, hpermit, hready]

/-- R63, R119: the flags handed over after a change of the zones. -/
theorem State.handFlags_eases (hsame : t.coolBasis = s.coolBasis) :
    EasesPermits p s (t.handFlags s.heat.zones) := by
  obtain ⟨hpermit, hready⟩ := Prod.mk.inj hsame
  obtain ⟨hcharged, hdue, hmode, -⟩ := Readiness.mk.inj hready
  constructor
  case permit =>
    obtain ⟨_, _, hg, heq⟩ := t.handFlags_shape s.heat.zones
    rw [heq, ← hpermit]
    exact .of_grant hg
  case ready =>
    intro _ y hgrant _ hr
    obtain ⟨hkept, htemp⟩ := State.handFlags_granted hgrant
    rw [hkept]
    exact ⟨hcharged ▸ hr.charged, hdue ▸ hr.due, hmode ▸ hr.mode,
      fun z hz => htemp z hz (hr.atTemp z hz)⟩

/-- R43, R45: targets derived again. -/
theorem State.deriveZones_eases (s : State) (always : Bool) :
    EasesPermits p s (s.deriveZones always) := by
  unfold State.deriveZones
  exact State.handFlags_eases rfl

theorem State.rederiveZones_eases (s : State) : EasesPermits p s s.rederiveZones :=
  s.deriveZones_eases false

theorem State.setMode_eased (s : State) (x : HeatMode) : s.permit.Eased (s.setMode x).permit := by
  obtain ⟨_, _, _, hg, heq⟩ := s.setMode_shape x
  rw [heq]
  exact .of_grant hg

/-- R64: leaving RUN ends the close grant. -/
theorem State.setMode_closeGrant_of_run (hrun : s.heat.mode = .run) {x : HeatMode} (hx : x ≠ .run) :
    (s.setMode x).permit.closeGrant = none := by
  unfold State.setMode
  rw [if_neg (hrun ▸ hx.symm)]
  dsimp only
  rw [if_pos hrun]
  obtain ⟨_, _, _, hg, heq⟩ := State.deriveZones_shape (State.withdrawClose
    (State.postSubs { s with heat.mode := x, lastHeat.mode := x }
      { code := .heatMode, v1 := x.code, v2 := s.heat.mode.code }) 3) true
  rw [heq]
  simpa [State.withdrawClose_permit] using hg

/-- R64: a close grant stands in RUN alone, and leaving RUN withdraws it. -/
theorem State.setMode_eases (s : State) (x : HeatMode) : EasesPermits p s (s.setMode x) where
  permit := s.setMode_eased x
  ready _ y hgrant _ hr := by
    have hrun : s.heat.mode = .run := hr.mode
    by_cases hx : x = .run
    · have hsame : s.setMode x = s := if_pos (hrun.trans hx.symm)
      rwa [hsame]
    · rw [State.setMode_closeGrant_of_run hrun hx] at hgrant
      cases hgrant

theorem State.wake_eases (s : State) : EasesPermits p s s.wake :=
  .ite _ (s.setMode_eases .run) (.refl s)

/-! ### Filing -/

/-- An upper release that is no more due than it was. -/
theorem EasesPermits.of_due (hpermit : t.permit = s.permit)
    (hready : t.readiness = { s.readiness with upperDue := t.upperDue })
    (hdue : t.upperDue = true → s.upperDue = true) : EasesPermits p s t where
  permit := .inl hpermit
  ready _ y _ _ hr := by
    obtain ⟨hcharged, hnot, hmode, htemp⟩ := hr
    rw [hready]
    refine ⟨hcharged, ?_, hmode, htemp⟩
    exact Bool.eq_false_iff.2 fun h => absurd (hdue h) (Bool.eq_false_iff.1 hnot)

/-- R36, R119: counts raised, and the close grant withdrawn if that makes the upper release due. -/
theorem State.raiseCounts_eases (s : State) (y : Bay) (sh : Shot) :
    EasesPermits p s ((s.raiseCounts y sh).withdrawIfDue s.upperDue) := by
  obtain ⟨_, heq⟩ := s.raiseCounts_shape y sh
  unfold State.withdrawIfDue
  split
  · refine .of_none (.inr ?_) ?_
    · rw [State.withdrawClose_permit, heq]
    · rw [State.withdrawClose_permit]
  · next hnot =>
    refine EasesPermits.of_due ?_ ?_ fun hdue => ?_
    · rw [heq]
    · rw [heq]
      rfl
    · simpa [hdue] using hnot

theorem State.completePark_eases (s : State) : EasesPermits p s s.completePark := by
  unfold State.completePark
  split
  · have hpark : EasesPermits p s (s.setPark false) := .of_basis (s.setPark_permitBasis false)
    exact (hpark.trans (State.setMode_eases _ .off)).then_basis (State.postRole_permitBasis _ _ _)
  · exact .refl s

/-- R31: a slot's in-use count is nothing to its recipe. -/
theorem State.mapSlotUse_recipeAt (s : State) (i : Ix16) (f : Nat → Nat) :
    (s.mapSlotUse i f).recipeAt = s.recipeAt := by
  funext j
  simp only [State.recipeAt, State.mapSlotUse, Hex.get_set]
  split
  · next h => rw [h]
  · rfl

/-- R32: a bay's recipe is judged on its mould, its recipe slot and the recipe that slot holds. -/
theorem State.bayRecipe_congr (hmould : (t.bays.get y).mouldId = (s.bays.get y).mouldId)
    (hbound : (t.bays.get y).recipeSlot = (s.bays.get y).recipeSlot)
    (hrecipe : ∀ i, (s.bays.get y).recipeSlot = some i → t.recipeAt i = s.recipeAt i) :
    t.bayRecipe y = s.bayRecipe y := by
  unfold State.bayRecipe State.bound
  rw [hmould, hbound]
  cases hslot : (s.bays.get y).recipeSlot with
  | none => rfl
  | some i =>
    rw [Option.bind_some, Option.bind_some, hrecipe i hslot]

/-- R36: the upper release is judged on the recipe under the press and the upper count. -/
theorem State.upperDue_congr (hrecipe : t.pressRecipe = s.pressRecipe)
    (hcount : t.upperCount = s.upperCount) : t.upperDue = s.upperDue := by
  unfold State.upperDue
  rw [hrecipe, hcount]

theorem State.pressRecipe_congr (hposition : t.permit.position = s.permit.position)
    (hrecipe : ∀ y, s.permit.position.inBay = some y → t.bayRecipe y = s.bayRecipe y) :
    t.pressRecipe = s.pressRecipe := by
  unfold State.pressRecipe
  rw [hposition]
  cases hbay : s.permit.position.inBay with
  | none => rfl
  | some y => exact hrecipe y hbay

theorem State.mapSlotUse_permitBasis (s : State) (i : Ix16) (f : Nat → Nat) :
    (s.mapSlotUse i f).permitBasis = s.permitBasis :=
  State.permitBasis_eq rfl (fun _ => Iff.rfl)
    (State.upperDue_congr (State.pressRecipe_congr rfl fun _ _ => State.bayRecipe_congr rfl rfl
      fun j _ => congrFun (s.mapSlotUse_recipeAt i f) j) rfl) rfl fun _ => rfl

theorem State.cureMarks_permitBasis (s : State) (c : PerBay (Option Nat)) :
    { s with cureMarks := c }.permitBasis = s.permitBasis := rfl

theorem State.history_permitBasis (s : State) (h : History) :
    { s with history := h }.permitBasis = s.permitBasis := rfl

/-- A slot set where the close grant is not for a CHARGED shot of the bay. -/
theorem State.setSlot_eases (s : State) (y : Bay) (o : Option Shot)
    (hfree : s.permit.closeGrant = some y → s.shotStage y ≠ some .charged) :
    EasesPermits p s (s.setSlot y o) where
  permit := .refl _
  ready _ z hgrant _ hr := by
    obtain ⟨hcharged, hdue, hmode, htemp⟩ := hr
    refine ⟨?_, hdue, hmode, htemp⟩
    rw [State.charged_iff] at hcharged ⊢
    rw [State.setSlot_shotStage, if_neg]
    · exact hcharged
    · rintro rfl
      exact hfree hgrant hcharged

/-- R20 to R23: the filing of a shot that no close grant rests on. -/
theorem State.fileShot_eases (s : State) (y : Bay) (o : ShotOutcome)
    (hfree : s.permit.closeGrant = some y → s.shotStage y ≠ some .charged) :
    EasesPermits p s (s.fileShot y o) := by
  unfold State.fileShot
  split
  · exact .refl s
  · next sh _ =>
    have h1 := (s.setSlot_eases (p := p) y none hfree).then_basis
      (State.cureMarks_permitBasis _ (s.cureMarks.set y none))
    have h2 := h1.then_basis (State.mapSlotUse_permitBasis _ sh.recipeSlot (· - 1))
    have h3 := (h2.then_basis (State.history_permitBasis _ (s.history.place sh o))).then_basis
      (State.judgeNearFull_permitBasis _)
    have h4 := EasesPermits.ite (sh.closedAt.isSome = true)
      (h3.trans (State.raiseCounts_eases _ y sh)) h3
    exact (h4.then_basis (State.postSubs_permitBasis _ _)).trans (State.completePark_eases _)

/-! ### The cure step and the heat period -/

theorem State.makeCured_permitBasis (s : State) (y : Bay) (d : Nat) (byTime : Bool)
    (hstage : s.shotStage y ≠ some .charged) :
    (s.makeCured y d byTime).permitBasis = s.permitBasis :=
  s.advance_permitBasis y hstage (by decide)

theorem State.judgeCured_permitBasis (s : State) (y : Bay) (sh : Shot) (r : Recipe)
    (hstage : s.shotStage y ≠ some .charged) :
    (s.judgeCured y sh r).permitBasis = s.permitBasis := by
  unfold State.judgeCured
  split
  · exact s.makeCured_permitBasis y _ false hstage
  · split
    · rw [State.makeCured_permitBasis _ y _ true (by rwa [State.addExc_shotStage]),
        State.addExc_permitBasis]
    · rfl

theorem State.judgeOverstay_permitBasis (s : State) (y : Bay) (sh : Shot) (r : Recipe) :
    (s.judgeOverstay y sh r).permitBasis = s.permitBasis := by
  unfold State.judgeOverstay
  split
  · split
    · exact s.addExc_permitBasis y .overstay
    · rfl
  · rfl

/-- R82 to R84: the judgements on the context that a cure step leaves. -/
theorem State.judgedStep_permitBasis {sh sh' : Shot} {r : Recipe} (hget : s.slots.get y = some sh)
    (hstage : sh'.stage = sh.stage) (hpressed : sh.stage ≠ .charged) :
    (if sh.stage = .closed then (s.setSlot y (some sh')).judgeCured y sh' r
      else (s.setSlot y (some sh')).judgeOverstay y sh' r).permitBasis = s.permitBasis := by
  have hset : (s.setSlot y (some sh')).permitBasis = s.permitBasis :=
    s.setSlot_permitBasis y (by simp [State.shotStage, hget, hstage])
  split
  · have hleft : (s.setSlot y (some sh')).shotStage y ≠ some .charged := by
      simp [State.setSlot_shotStage, hstage, hpressed]
    rw [State.judgeCured_permitBasis _ y sh' r hleft, hset]
  · rw [State.judgeOverstay_permitBasis, hset]

/-- R75: a cure step is for a shot in CLOSED or CURED. -/
theorem State.cureStep_permitBasis (s : State) (y : Bay) :
    (s.cureStep y).permitBasis = s.permitBasis := by
  unfold State.cureStep
  split
  · rfl
  · next sh hget =>
    split
    · next hpressed =>
      split
      · rfl
      · refine State.judgedStep_permitBasis hget ?_ ?_
        · split <;> rfl
        · rcases hpressed with h | h <;> simp [h]
    · rfl

theorem State.takeUpNotices_coolBasis (s old : State) (zs : List ZoneId) :
    (s.takeUpNotices old zs).coolBasis = s.coolBasis := by
  induction zs generalizing s with
  | nil => rfl
  | cons z zs ih =>
    refine (ih _).trans ?_
    split
    · rfl
    · split <;> rfl

theorem State.clearFresh_coolBasis (s : State) (zs : List ZoneId) :
    (s.clearFresh zs).coolBasis = s.coolBasis := by
  induction zs generalizing s with
  | nil => rfl
  | cons z zs ih =>
    unfold State.clearFresh
    split
    · exact ih s
    · exact ih _

theorem State.takeUpStage_coolBasis (s : State) : s.takeUpStage.coolBasis = s.coolBasis :=
  (State.clearFresh_coolBasis _ ZoneId.all).trans (s.takeUpNotices_coolBasis s ZoneId.all)

theorem State.rampStageAll_coolBasis (s before : State) :
    (s.rampStageAll before).coolBasis = s.coolBasis := rfl

theorem State.piStageAll_coolBasis (s : State) : s.piStageAll.coolBasis = s.coolBasis := rfl

theorem State.arbitrateAll_coolBasis (s : State) : s.arbitrateAll.coolBasis = s.coolBasis := rfl

theorem State.notePowerLimited_permitBasis (s : State) :
    s.notePowerLimited.permitBasis = s.permitBasis := by
  unfold State.notePowerLimited
  split
  · rfl
  · split
    · exact s.addExc_permitBasis _ .powerLimited
    · rfl

theorem State.heatStages_coolBasis (s : State) : s.heatStages.coolBasis = s.coolBasis := by
  unfold State.heatStages
  rw [State.coolBasis_congr (State.notePowerLimited_permitBasis _), State.arbitrateAll_coolBasis,
    State.piStageAll_coolBasis, State.rampStageAll_coolBasis, State.takeUpStage_coolBasis]

/-- R62, R119: the period ends with its flags handed to the permit block. -/
theorem State.heatPeriod_eases (s : State) : EasesPermits p s s.heatPeriod := by
  have hcured : ((s.heatStages.cureStep .a).cureStep .b).coolBasis = s.coolBasis :=
    (State.coolBasis_congr ((State.cureStep_permitBasis _ .b).trans
      (State.cureStep_permitBasis _ .a))).trans s.heatStages_coolBasis
  exact (State.handFlags_eases hcured).then_basis (State.idleTick_permitBasis _)

theorem State.idleExpires_eases (s : State) : EasesPermits p s s.idleExpires := by
  unfold State.idleExpires
  split
  · exact .from_basis (t := { s with heat.idleTimer := 0 }) rfl (State.setMode_eases _ .setbackAuto)
  · exact .refl s

/-! ### Withdrawals of the shuttle grant -/

theorem ShuttleLaw.of_none (h : s.permit.shuttleGrant = none) : ShuttleLaw s :=
  shuttleLaw_iff.2 fun hgrant => by simp [h] at hgrant

theorem ShuttleLaw.of_eased (h : ShuttleLaw s) (heased : s.permit.Eased t.permit) : ShuttleLaw t :=
  (KeepsPermits.of_narrows (p := False) (.of_eased heased) nofun).shuttle h

theorem CloseLaw.of_none (h : s.permit.closeGrant = none) : CloseLaw s := by
  intro y hgrant
  cases h.symm.trans hgrant

/-- R120: beside a close grant there is no shuttle grant. -/
theorem CloseLaw.shuttleGrant_eq_none (h : CloseLaw s) (hgrant : s.permit.closeGrant = some y) :
    s.permit.shuttleGrant = none :=
  let ⟨hallows, _⟩ := closeLaw_iff.1 h y hgrant
  hallows.shuttle

theorem State.withdrawShuttle_of_none (h : s.permit.shuttleGrant = none) (c : Nat) :
    s.withdrawShuttle c = s := by
  simp [State.withdrawShuttle, h]

theorem State.withdrawShuttle_shuttleGrant (s : State) (c : Nat) :
    (s.withdrawShuttle c).permit.shuttleGrant = none := by
  obtain ⟨_, _, _, _, _, _, heq⟩ := s.withdrawShuttle_shape c
  rw [heq]

theorem State.withdrawShuttle_closeGrant (s : State) (c : Nat) :
    (s.withdrawShuttle c).permit.closeGrant = s.permit.closeGrant
      ∨ (s.withdrawShuttle c).permit.closeGrant = none := by
  obtain ⟨_, _, _, _, hg, _, heq⟩ := s.withdrawShuttle_shape c
  rw [heq]
  exact hg

theorem State.blockGrants_cell_ungranted (s : State) : (s.blockGrants .cell).permit.Ungranted := by
  unfold State.blockGrants
  simp only [State.withdrawClose_permit]
  exact ⟨rfl, s.withdrawShuttle_shuttleGrant 1⟩

/-! ### The hold set -/

theorem SelfHolds.mem_entries {e : SelfHolds} {h : Hold} :
    h ∈ e.entries ↔ (e.pressSilent = true ∧ h = ⟨.self, .cell, pressSilentReason⟩)
      ∨ (e.powerWarn = true ∧ h = ⟨.self, .cell, powerWarnReason⟩)
      ∨ ∃ y, e.mouldCheck.get y = true ∧ h = ⟨.self, .bay y, mouldCheckReason⟩ := by
  have hbays : (∃ y, e.mouldCheck.get y = true ∧ h = ⟨.self, .bay y, mouldCheckReason⟩)
      ↔ (e.mouldCheck.get .a = true ∧ h = ⟨.self, .bay .a, mouldCheckReason⟩)
        ∨ (e.mouldCheck.get .b = true ∧ h = ⟨.self, .bay .b, mouldCheckReason⟩) := by
    constructor
    · rintro ⟨_ | _, hy⟩
      · exact .inl hy
      · exact .inr hy
    · rintro (hy | hy)
      · exact ⟨_, hy⟩
      · exact ⟨_, hy⟩
  rw [hbays]
  simp only [SelfHolds.entries, List.mem_append, List.mem_ite_nil_right, List.mem_singleton,
    or_assoc]

/-- The hold set moved, and no entry added stands against a grant. -/
theorem Permit.Narrows.of_holds {a : List Hold} {b : SelfHolds}
    (hnew : ∀ h ∈ a ++ b.entries, h ∈ m.holds ∨ ∃ y, h.scope = .bay y ∧ m.closeGrant ≠ some y) :
    m.Narrows { m with stationHolds := a, selfHolds := b } where
  shuttle hgrant := by
    refine ⟨hgrant, fun ⟨hpress, hareas, hholds, hclose⟩ =>
      ⟨hpress, hareas, fun h hmem => ?_, hclose⟩⟩
    rcases hnew h hmem with hold | ⟨y, hscope, -⟩
    · exact hholds h hold
    · simp [hscope]
  close y hgrant := by
    refine ⟨hgrant, fun ⟨hpress, hposition, hholds, harea, hshuttle⟩ =>
      ⟨hpress, hposition, fun h hmem => ?_, harea, hshuttle⟩⟩
    rcases hnew h hmem with hold | ⟨z, hscope, hother⟩
    · exact hholds h hold
    · rw [hscope]
      refine ⟨nofun, fun hz => hother ?_⟩
      cases hz
      exact hgrant

/-- R122, R123: entries of one scope added, with the withdrawals that their scope brings. -/
theorem State.blockGrants_keeps (sc : Scope)
    (hpermit : t.permit = { s.permit with
      stationHolds := t.permit.stationHolds, selfHolds := t.permit.selfHolds })
    (hready : t.readiness = s.readiness)
    (hnew : ∀ h ∈ t.permit.holds, h ∈ s.permit.holds ∨ h.scope = sc) :
    KeepsPermits p s (t.blockGrants sc) := by
  cases sc with
  | cell => exact .of_ungranted t.blockGrants_cell_ungranted
  | bay y =>
    have hscoped : ∀ m : Permit, m.holds = s.permit.holds → m.closeGrant ≠ some y →
        m.Narrows { m with
          stationHolds := t.permit.stationHolds, selfHolds := t.permit.selfHolds } := by
      intro m hm hother
      refine .of_holds fun h hmem => ?_
      rw [hm]
      exact (hnew h hmem).imp_right fun hscope => ⟨y, hscope, hother⟩
    unfold State.blockGrants
    dsimp only
    split
    · have hgone : (t.withdrawClose 1 0).permit = { s.permit with
          closeGrant := none, stationHolds := t.permit.stationHolds,
          selfHolds := t.permit.selfHolds } := by
        rw [State.withdrawClose_permit, hpermit]
      refine .of_narrows ?_ fun _ y hgrant => by simp [hgone] at hgrant
      rw [hgone]
      exact (Permit.Narrows.of_eased (.inr rfl)).trans
        (hscoped { s.permit with closeGrant := none } rfl nofun)
    · next hother =>
      refine .of_permit hready ?_
      rw [hpermit] at hother ⊢
      exact hscoped s.permit rfl hother

/-- R124: entries leave the hold set. -/
theorem KeepsPermits.of_fewer_holds
    (hpermit : t.permit = { s.permit with
      stationHolds := t.permit.stationHolds, selfHolds := t.permit.selfHolds })
    (hready : t.readiness = s.readiness)
    (hfewer : ∀ h ∈ t.permit.holds, h ∈ s.permit.holds) : KeepsPermits p s t := by
  refine .of_permit hready ?_
  rw [hpermit]
  exact .of_holds fun h hmem => .inl (hfewer h hmem)

theorem State.addHold_keeps (s : State) (h : Hold) : KeepsPermits p s (s.addHold h) := by
  refine State.blockGrants_keeps h.scope rfl rfl fun x hmem => ?_
  simp only [Permit.holds, State.holdChanged, State.postSubs_permit, List.append_assoc,
    List.mem_append, List.mem_singleton] at hmem ⊢
  rcases hmem with hold | rfl | hself
  · exact .inl (.inl hold)
  · exact .inr rfl
  · exact .inl (.inr hself)

theorem holdAddAct_keeps (s : State) (i : PortId) (scope reason : Byte) :
    KeepsPermits p s (holdAddAct i scope reason s).1 := by
  unfold holdAddAct
  split
  · exact .refl s
  · split
    · exact .refl s
    · dsimp only
      split
      · exact .refl s
      · split
        · exact .refl s
        · exact s.addHold_keeps _

theorem State.removeHolds_keeps (s : State) (f : Hold → Bool) :
    KeepsPermits p s (s.removeHolds f) := by
  have hfewer : KeepsPermits p s
      { s with permit.stationHolds := s.permit.stationHolds.filter fun h => !f h } := by
    refine .of_fewer_holds rfl rfl fun h hmem => ?_
    simp only [Permit.holds, List.mem_append, List.mem_filter] at hmem ⊢
    exact hmem.imp_left fun ⟨hold, _⟩ => hold
  unfold State.removeHolds
  exact .ite _ hfewer (hfewer.then_basis (State.holdChanged_permitBasis _ _ _))

theorem holdRemoveAct_keeps (s : State) (i : PortId) (scope reason : Byte) :
    KeepsPermits p s (holdRemoveAct i scope reason s).1 := by
  unfold holdRemoveAct
  split
  · exact .refl s
  · split
    · exact .refl s
    · exact s.removeHolds_keeps _

/-- R130: the PRESS_SILENT entry leaves the hold set. -/
theorem State.setPressSilent_false_keeps (s : State) :
    KeepsPermits p s (s.setPressSilent false) := by
  obtain ⟨_, heq⟩ := s.setPressSilent_shape false
  rw [heq]
  refine .of_fewer_holds rfl rfl fun h hmem => ?_
  simp only [Permit.holds, List.mem_append, SelfHolds.mem_entries] at hmem ⊢
  exact hmem.imp_right fun hself => .inr (hself.resolve_left fun ⟨hno, _⟩ => nomatch hno)

/-- R191: the POWER_WARN entry leaves the hold set. -/
theorem State.setPowerWarn_false_keeps (s : State) : KeepsPermits p s (s.setPowerWarn false) := by
  obtain ⟨_, heq⟩ := s.setPowerWarn_shape false
  rw [heq]
  refine .of_fewer_holds rfl rfl fun h hmem => ?_
  simp only [Permit.holds, List.mem_append, SelfHolds.mem_entries] at hmem ⊢
  exact hmem.imp_right fun hself =>
    hself.imp_right fun hlater => .inr (hlater.resolve_left fun ⟨hno, _⟩ => nomatch hno)

theorem State.enterWarning_keeps (s : State) : KeepsPermits p s s.enterWarning := by
  unfold State.enterWarning
  split
  · exact (KeepsPermits.of_ungranted (State.blockGrants_cell_ungranted _)).then_basis
      (State.postAll_permitBasis _ _)
  · exact .refl s

theorem State.leaveWarning_keeps (s : State) : KeepsPermits p s s.leaveWarning := by
  unfold State.leaveWarning
  split
  · exact .from_basis (t := { s with supply := .normal }) rfl (State.setPowerWarn_false_keeps _)
  · exact .refl s


/-! ### The mould-check flag -/

/-- R38: the flag of a bay is nothing to its recipe. -/
theorem State.setBay_mouldCheck_permitBasis (s : State) (y : Bay) (v : Bool) :
    (s.setBay y { s.bays.get y with mouldCheck := v }).permitBasis = s.permitBasis := by
  refine State.permitBasis_eq rfl (fun _ => Iff.rfl) ?_ rfl fun _ => rfl
  refine State.upperDue_congr (State.pressRecipe_congr rfl fun z _ => ?_) rfl
  refine State.bayRecipe_congr ?_ ?_ fun _ _ => rfl
  all_goals
    rw [State.setBay_bays, PerBay.get_set]
    split
    · next hz => rw [hz]
    · rfl

/-- R38: with the flag of a bay its own entry alone joins or leaves the hold set. -/
theorem Permit.mem_holds_of_setMouldCheck {v : Bool} {h : Hold}
    (hmem : h ∈ Permit.holds { m with selfHolds.mouldCheck := m.selfHolds.mouldCheck.set y v }) :
    h ∈ m.holds ∨ (v = true ∧ h.scope = .bay y) := by
  simp only [Permit.holds, List.mem_append, SelfHolds.mem_entries, PerBay.get_set] at hmem ⊢
  rcases hmem with hold | hsilent | hwarn | ⟨z, hz, rfl⟩
  · exact .inl (.inl hold)
  · exact .inl (.inr (.inl hsilent))
  · exact .inl (.inr (.inr (.inl hwarn)))
  · split at hz
    · next hyz => exact .inr ⟨hz, congrArg Scope.bay hyz.symm⟩
    · exact .inl (.inr (.inr (.inr ⟨z, hz, rfl⟩)))

/-- R38, R122: a flag set adds an entry of the bay's scope, and a flag cleared removes it. -/
theorem State.setMouldCheck_keeps (s : State) (y : Bay) (v : Bool) :
    KeepsPermits p s (s.setMouldCheck y v) := by
  obtain ⟨-, hready⟩ := Prod.mk.inj (s.setBay_mouldCheck_permitBasis y v)
  unfold State.setMouldCheck
  split
  · exact .refl s
  · dsimp only
    cases v with
    | true =>
      refine State.blockGrants_keeps (.bay y) rfl hready fun h hmem => ?_
      exact (Permit.mem_holds_of_setMouldCheck (m := s.permit) hmem).imp_right And.right
    | false =>
      refine .of_fewer_holds rfl hready fun h hmem => ?_
      exact (Permit.mem_holds_of_setMouldCheck (m := s.permit) hmem).resolve_right nofun

/-! ### Work areas -/

/-- R125, R127: an area that is enterable has no grant against it. -/
theorem State.enterable_iff {s : State} {r : Area} :
    s.enterable r = true ↔ s.permit.shuttleGrant = none
      ∧ (r = .press → s.permit.press = .open ∧ s.permit.closeGrant = none) := by
  cases r
  · simp [State.enterable, and_comm]
  · simp [State.enterable]

/-- R125: an area gets a new holder only where it is enterable. -/
theorem State.setArea_keeps (s : State) (r : Area) (x : AreaRecord)
    (hholder : x.holder = none ∨ x.holder = (s.permit.areas.get r).holder
      ∨ s.enterable r = true) : KeepsPermits p s (s.setArea r x) := by
  have hstill : s.enterable r = false → (s.permit.areas.get r).holder = none → x.holder = none := by
    intro hclosed hfree
    rcases hholder with h | h | h
    · exact h
    · exact h.trans hfree
    · rw [h] at hclosed
      cases hclosed
  refine .of_permit rfl ⟨fun hgrant => ⟨hgrant, fun ⟨hpress, hareas, hholds, hclose⟩ =>
    ⟨hpress, fun q => ?_, hholds, hclose⟩⟩, fun y hgrant => ⟨hgrant,
    fun ⟨hpress, hposition, hholds, harea, hshuttle⟩ =>
      ⟨hpress, hposition, hholds, ?_, hshuttle⟩⟩⟩
  · simp only [State.setArea, PerArea.get_set]
    split
    · refine hstill ?_ (hareas r)
      rw [← Bool.not_eq_true, State.enterable_iff]
      rintro ⟨hnone, -⟩
      simp [State.setArea, hnone] at hgrant
    · exact hareas q
  · simp only [State.setArea, PerArea.get_set]
    split
    · next hr =>
      refine hstill ?_ (hr ▸ harea)
      rw [← Bool.not_eq_true, State.enterable_iff]
      rintro ⟨-, hfree⟩
      obtain ⟨-, hnone⟩ := hfree hr
      cases hnone.symm.trans hgrant
    · exact harea

/-- R127: a waiter is promoted where the area is enterable. -/
theorem State.promote_keeps (s : State) (r : Area) : KeepsPermits p s (s.promote r) := by
  unfold State.promote
  dsimp only
  split
  · split
    · next henterable =>
      exact (s.setArea_keeps r _ (.inr (.inr henterable))).then_basis
        (State.postRole_permitBasis _ _ _)
    · exact .refl s
  · exact .refl s

theorem State.promoteBoth_keeps (s : State) : KeepsPermits p s s.promoteBoth :=
  (s.promote_keeps .press).trans (State.promote_keeps _ .load)

theorem State.settle_keeps (s before : State) : KeepsPermits p s (s.settle before) := by
  have hpromoted : KeepsPermits p s (s.promoteAfter before) :=
    .ite _ s.promoteBoth_keeps (.ite _ (s.promote_keeps .press) (.refl s))
  exact hpromoted.then_basis (State.idleSettled_permitBasis _)

theorem KeepsPermits.event {f : State → State} (h : KeepsPermits p s (f s)) :
    KeepsPermits p s (s.event f) :=
  .ite _ (h.trans (State.settle_keeps _ s)) (.refl s)

/-- R178, step 4: a request keeps the laws where its owner's act does. -/
theorem KeepsPermits.serve {i : PortId} {c : Instr} {act : State → State × Reply}
    (h : KeepsPermits p s (act s).1) : KeepsPermits p s (s.serve i c act) :=
  .event (.ite _ (h.then_basis (State.setBuffer_permitBasis _ i _)) (.refl s))

theorem State.enterArea_keeps (s : State) (u : AreaUser) (r : Area) :
    KeepsPermits p s (s.enterArea u r).1 := by
  unfold State.enterArea
  dsimp only
  split
  · exact .refl s
  · split
    · exact .refl s
    · split
      · exact .refl s
      · split
        · next hfree =>
          obtain ⟨-, henterable⟩ := hfree
          exact s.setArea_keeps r _ (.inr (.inr henterable))
        · split
          · exact .refl s
          · exact s.setArea_keeps r _ (.inr (.inl rfl))

theorem areaEnterAct_keeps (s : State) (i : PortId) (area : Byte) :
    KeepsPermits p s (areaEnterAct i area s).1 := by
  unfold areaEnterAct
  split
  · exact .refl s
  · exact .refl s
  · exact s.wake_eases.keeps.trans (State.enterArea_keeps _ _ _)

theorem State.releaseArea_keeps (s : State) (u : AreaUser) (r : Area) :
    KeepsPermits p s (s.releaseArea u r) := by
  have hreleased : KeepsPermits p s (s.setArea r { s.permit.areas.get r with holder := none }) :=
    s.setArea_keeps r _ (.inl rfl)
  exact .ite _ (hreleased.then_basis (State.stopEject_permitBasis _ .areaReleased)) hreleased

theorem State.leaveArea_keeps (s : State) (u : AreaUser) (r : Area) :
    KeepsPermits p s (s.leaveArea u r).1 := by
  unfold State.leaveArea
  dsimp only
  split
  · exact (s.releaseArea_keeps u r).trans (State.promote_keeps _ r)
  · split
    · exact s.setArea_keeps r _ (.inr (.inl rfl))
    · exact .refl s

theorem areaLeaveAct_keeps (s : State) (i : PortId) (area : Byte) :
    KeepsPermits p s (areaLeaveAct i area s).1 := by
  unfold areaLeaveAct
  split
  · exact .refl s
  · exact .refl s
  · exact s.leaveArea_keeps _ _

theorem forceLeaveAct_keeps (s : State) (area : Byte) :
    KeepsPermits p s (forceLeaveAct area s).1 := by
  unfold forceLeaveAct
  split
  · exact .refl s
  · split
    · exact .refl s
    · exact ((s.releaseArea_keeps _ _).then_basis (State.postAll_permitBasis _ _)).trans
        (State.promote_keeps _ _)

theorem State.cancelWait_keeps (s : State) (u : AreaUser) (r : Area) :
    KeepsPermits p s (s.cancelWait u r) := by
  unfold State.cancelWait
  dsimp only
  split
  · have hleft : KeepsPermits p s (s.setArea r { s.permit.areas.get r with waiter := none }) :=
      s.setArea_keeps r _ (.inr (.inl rfl))
    exact hleft.then_basis (State.postRole_permitBasis _ _ _)
  · exact .refl s

theorem State.cancelWaits_keeps (s : State) (u : AreaUser) : KeepsPermits p s (s.cancelWaits u) :=
  (s.cancelWait_keeps u .press).trans (State.cancelWait_keeps _ u .load)

/-! ### The press -/

theorem State.setPress_permitBasis (s : State) (x : PressState) :
    (s.setPress x).permitBasis = ({ s.permit with press := x }, s.readiness) := by
  obtain ⟨_, heq⟩ := s.setPress_shape x
  exact heq ▸ rfl

/-- R109, steps 1 and 2: the press moves, and leaving OPEN withdraws the shuttle grant. -/
def State.movePress (s : State) (x : PressState) : State :=
  if s.permit.press = .open ∧ x ≠ .open then (s.setPress x).withdrawShuttle 3 else s.setPress x

/-- R109, steps 1 to 4. -/
def State.takePress (s : State) (x : PressState) : State :=
  let s1 := if x = .opening then (s.movePress x).withdrawClose 6 else s.movePress x
  if x = .closed then s1.closeShot else s1

/-- R109, step 5. -/
def State.noteForce (s : State) : Option Nat → State
  | some f => (s.pressForce f .a).pressForce f .b
  | none => s

theorem State.reportPress_eq (s : State) (x : PressState) (force : Option Nat) :
    s.reportPress x force
      = (if x = .open then (((s.takePress x).noteForce force).openShot .a).openShot .b
          else (s.takePress x).noteForce force).promoteBoth := by
  cases force <;> rfl

theorem ShuttleLaw.movePress (h : ShuttleLaw s) (x : PressState) : ShuttleLaw (s.movePress x) := by
  unfold State.movePress
  split
  · exact .of_none (State.withdrawShuttle_shuttleGrant _ 3)
  · next hstays =>
    obtain ⟨hpermit, -⟩ := Prod.mk.inj (s.setPress_permitBasis x)
    refine shuttleLaw_iff.2 fun hgrant => ?_
    rw [hpermit] at hgrant ⊢
    obtain ⟨hopen, hareas, hholds, hclose⟩ := shuttleLaw_iff.1 h hgrant
    exact ⟨Decidable.of_not_not fun hx => hstays ⟨hopen, hx⟩, hareas, hholds, hclose⟩

theorem State.movePress_permitBasis (h : s.permit.shuttleGrant = none) (x : PressState) :
    (s.movePress x).permitBasis = ({ s.permit with press := x }, s.readiness) := by
  have hset := s.setPress_permitBasis x
  obtain ⟨hpermit, -⟩ := Prod.mk.inj hset
  have hnone : (s.setPress x).permit.shuttleGrant = none := by
    rw [hpermit]
    exact h
  unfold State.movePress
  rw [State.withdrawShuttle_of_none hnone, ite_self, hset]

theorem State.movePress_closeGrant (s : State) (x : PressState) :
    (s.movePress x).permit.closeGrant = s.permit.closeGrant
      ∨ (s.movePress x).permit.closeGrant = none := by
  obtain ⟨hpermit, -⟩ := Prod.mk.inj (s.setPress_permitBasis x)
  have hgrant : (s.setPress x).permit.closeGrant = s.permit.closeGrant := by rw [hpermit]
  unfold State.movePress
  split
  · rw [← hgrant]
    exact State.withdrawShuttle_closeGrant _ 3
  · exact .inl hgrant

/-- R120: under a close grant, of which the law holds, the press moves and nothing else does. -/
theorem CloseLaw.movePress_granted (h : CloseLaw s) {x : PressState}
    (hgrant : (s.movePress x).permit.closeGrant = some y) :
    s.permit.closeGrant = some y
      ∧ (s.movePress x).permitBasis = ({ s.permit with press := x }, s.readiness) := by
  have hs : s.permit.closeGrant = some y := by
    rcases s.movePress_closeGrant x with hsame | hnone
    · exact hsame ▸ hgrant
    · cases hnone.symm.trans hgrant
  exact ⟨hs, State.movePress_permitBasis (h.shuttleGrant_eq_none hs) x⟩

/-- R120: a press that is OPEN or CLOSING allows a close grant. -/
theorem CloseLaw.movePress (h : CloseLaw s) {x : PressState} (hx : x = .open ∨ x = .closing) :
    CloseLaw (s.movePress x) := by
  refine closeLaw_iff.2 fun y hgrant => ?_
  obtain ⟨hs, hbasis⟩ := h.movePress_granted hgrant
  obtain ⟨hpermit, hready⟩ := Prod.mk.inj hbasis
  obtain ⟨⟨-, hposition, hholds, harea, hshuttle⟩, hr⟩ := closeLaw_iff.1 h y hs
  rw [hpermit, hready]
  exact ⟨⟨hx, hposition, hholds, harea, hshuttle⟩, hr⟩

theorem State.closeShot_eased (s : State) : s.permit.Eased s.closeShot.permit := by
  unfold State.closeShot
  split
  · exact .refl _
  · rw [State.advance_permit]
    split
    · exact .inr rfl
    · exact .refl _

/-- R110: the grant for the bay whose shot closes is consumed. -/
theorem State.closeShot_closeGrant
    (h : ∀ y, s.permit.closeGrant = some y → s.closingBay = some y) :
    s.closeShot.permit.closeGrant = none := by
  unfold State.closeShot
  cases hgrant : s.permit.closeGrant with
  | some y => simp [h y hgrant]
  | none =>
    split
    · exact hgrant
    · rw [if_neg (by simp), State.advance_permit]
      exact hgrant

theorem State.closingBay_eq (hposition : s.permit.position.inBay = some y)
    (hstage : s.shotStage y = some .charged) : s.closingBay = some y := by
  simp [State.closingBay, hposition, hstage]

/-- R120: a CLOSED report consumes the close grant. -/
theorem CloseLaw.movePress_closeShot (h : CloseLaw s) (x : PressState) :
    (s.movePress x).closeShot.permit.closeGrant = none := by
  refine State.closeShot_closeGrant fun y hgrant => ?_
  obtain ⟨hs, hbasis⟩ := h.movePress_granted hgrant
  obtain ⟨hpermit, hready⟩ := Prod.mk.inj hbasis
  obtain ⟨hallows, hr⟩ := closeLaw_iff.1 h y hs
  refine State.closingBay_eq ?_ (State.charged_iff.1 ?_)
  · rw [hpermit]
    exact hallows.position
  · rw [hready]
    exact hr.charged

/-- R109: the press states that a report may name. -/
theorem State.takePress_keeps (s : State) {x : PressState} (hx : x ≠ .unknown) :
    KeepsPermits p s (s.takePress x) := by
  match x, hx with
  | .unknown, hx => exact absurd rfl hx
  | .open, _ => exact ⟨fun h => h.movePress .open, fun _ h => h.movePress (.inl rfl)⟩
  | .closing, _ => exact ⟨fun h => h.movePress .closing, fun _ h => h.movePress (.inr rfl)⟩
  | .opening, _ =>
    have hwithdrawn := (s.movePress .opening).withdrawClose_eases (p := p) 6 0
    refine ⟨fun h => hwithdrawn.keeps.shuttle (h.movePress .opening), fun _ _ => .of_none ?_⟩
    change ((s.movePress .opening).withdrawClose 6 0).permit.closeGrant = none
    rw [State.withdrawClose_permit]
  | .closed, _ =>
    exact ⟨fun h => (h.movePress .closed).of_eased (State.closeShot_eased _),
      fun _ h => .of_none (h.movePress_closeShot .closed)⟩

theorem State.pressForce_permitBasis (s : State) (force : Nat) (y : Bay) :
    (s.pressForce force y).permitBasis = s.permitBasis := by
  unfold State.pressForce
  split
  · rfl
  · next sh hget =>
    split
    · exact s.setSlot_permitBasis y (by simp [State.shotStage, hget, Shot.applyForce])
    · rfl

theorem State.noteForce_permitBasis (s : State) (force : Option Nat) :
    (s.noteForce force).permitBasis = s.permitBasis := by
  cases force with
  | none => rfl
  | some f => exact (State.pressForce_permitBasis _ f .b).trans (s.pressForce_permitBasis f .a)

/-- R112: a press that opens moves pressed shots alone. -/
theorem State.openShot_permitBasis (s : State) (y : Bay) :
    (s.openShot y).permitBasis = s.permitBasis := by
  unfold State.openShot
  split
  · next hstage =>
    rw [State.advance_permitBasis _ y (by simp [hstage]) (by decide), State.addExc_permitBasis]
  · next hstage => exact s.advance_permitBasis y (by simp [hstage]) (by decide)
  all_goals rfl

theorem State.reportPress_keeps (s : State) {x : PressState} (hx : x ≠ .unknown)
    (force : Option Nat) : KeepsPermits p s (s.reportPress x force) := by
  have hforce : KeepsPermits p s ((s.takePress x).noteForce force) :=
    (s.takePress_keeps hx).then_basis (State.noteForce_permitBasis _ force)
  have hopened := (hforce.then_basis (State.openShot_permitBasis _ .a)).then_basis
    (State.openShot_permitBasis _ .b)
  rw [State.reportPress_eq]
  exact (KeepsPermits.ite (x = .open) hopened hforce).trans (State.promoteBoth_keeps _)

/-- R109: UNKNOWN is no press state of a report. -/
theorem pressOf_ne_unknown {b : Byte} {x : PressState} (h : pressOf b = some x) : x ≠ .unknown := by
  unfold pressOf at h
  split at h <;> cases h <;> decide

theorem reportPressAct_keeps (s : State) (state : Byte) (force : Option (BitVec 16)) :
    KeepsPermits p s (reportPressAct state force s).1 := by
  unfold reportPressAct
  split
  · exact .refl s
  · next hx => exact s.reportPress_keeps (pressOf_ne_unknown hx) _

/-! ### The grants -/

/-- R117: what a CLOSE REQUEST that passes its checks has found. -/
theorem State.judgeClose_ok {n : Nat} (hok : s.judgeClose = .ok (y, n)) :
    s.permit.AllowsClose y ∧ s.readiness.Allows y := by
  unfold State.judgeClose at hok
  split at hok
  · cases hok
  next hshuttle =>
  split at hok
  · cases hok
  next z hposition =>
  split at hok
  · cases hok
  next hpress =>
  split at hok
  · cases hok
  next sh hget =>
  split at hok
  · cases hok
  next hstage =>
  split at hok
  · cases hok
  next hholds =>
  split at hok
  · cases hok
  next harea =>
  split at hok
  · cases hok
  next hdue =>
  split at hok
  · cases hok
  next hmode =>
  split at hok
  · cases hok
  next hcold =>
  cases hok
  refine ⟨⟨.inl (Decidable.of_not_not hpress), hposition, fun h hmem => ?_, ?_, ?_⟩,
    ⟨State.charged_iff.2 ?_, ?_, Decidable.of_not_not hmode, fun z hz => ?_⟩⟩
  · have hpasses := List.find?_eq_none.1 hholds h hmem
    simpa using hpasses
  · simpa using harea
  · simpa using hshuttle
  · rw [State.shotStage, hget, Option.map_some, Decidable.of_not_not hstage]
  · exact Bool.eq_false_iff.2 hdue
  · have hwarm := List.filter_eq_nil_iff.1 (Decidable.of_not_not hcold) z hz
    simpa [State.readiness] using hwarm

theorem closeRequestAct_keeps (s : State) : KeepsPermits p s (closeRequestAct s).1 := by
  unfold closeRequestAct
  split
  · exact .refl s
  · split
    · exact .refl s
    · next y n hok =>
      obtain ⟨hallows, hready⟩ := State.judgeClose_ok hok
      obtain ⟨hpress, hposition, hholds, harea, hshuttle⟩ := hallows
      refine ⟨fun _ => .of_none hshuttle, fun _ _ => closeLaw_iff.2 fun z hgrant => ?_⟩
      cases hgrant
      exact ⟨⟨hpress, hposition, hholds, harea, hshuttle⟩, hready⟩

/-- R113: what a SHUTTLE REQUEST that passes its checks has found. -/
theorem State.judgeShuttle_none (hok : s.judgeShuttle y = none) : s.permit.AllowsShuttle := by
  unfold State.judgeShuttle at hok
  split at hok
  · cases hok
  split at hok
  · cases hok
  next hpress =>
  split at hok
  · cases hok
  next hgrants =>
  split at hok
  · cases hok
  next hheld =>
  split at hok
  · cases hok
  next hareas =>
  simp only [Bool.or_eq_true, not_or, Bool.not_eq_true, Option.isSome_eq_false_iff,
    Option.isNone_iff_eq_none] at hgrants hareas
  obtain ⟨hclose, -⟩ := hgrants
  obtain ⟨hpressArea, hloadArea⟩ := hareas
  refine ⟨Decidable.of_not_not hpress, fun r => ?_, fun h hmem hcell => hheld ?_, hclose⟩
  · cases r with
    | press => exact hpressArea
    | load => exact hloadArea
  · exact List.any_eq_true.2 ⟨h, hmem, by simp [hcell]⟩

theorem State.requestShuttle_keeps (s : State) (y : Bay) :
    KeepsPermits p s (s.requestShuttle y).1 := by
  unfold State.requestShuttle
  split
  · exact .refl s
  · next hok =>
    obtain ⟨hpress, hareas, hholds, hclose⟩ := State.judgeShuttle_none hok
    obtain ⟨_, g, _, hg, heq⟩ :=
      State.setPosition_shape { s with permit.shuttleGrant := some y } .moving
    have hnone : g = none := hg.elim (fun h => h.trans hclose) id
    subst hnone
    dsimp only
    rw [heq]
    exact ⟨fun _ => shuttleLaw_iff.2 fun _ => ⟨hpress, hareas, hholds, rfl⟩,
      fun _ _ => .of_none rfl⟩

theorem shuttleRequestAct_keeps (s : State) (target : Byte) :
    KeepsPermits p s (shuttleRequestAct target s).1 := by
  unfold shuttleRequestAct
  split
  · exact .refl s
  · exact s.wake_eases.keeps.trans (State.requestShuttle_keeps _ _)

theorem shuttleDoneAct_keeps (s : State) (position : Byte) :
    KeepsPermits p s (shuttleDoneAct position s).1 := by
  unfold shuttleDoneAct
  split
  · exact .refl s
  · next y _ =>
    split
    · exact .refl s
    · next hclose =>
      rw [Option.not_isSome_iff_eq_none] at hclose
      obtain ⟨_, g, _, hg, heq⟩ :=
        State.setPosition_shape { s with permit.shuttleGrant := none } (Position.ofIn y)
      have hdone : KeepsPermits p s
          ({ s with permit.shuttleGrant := none }.setPosition (Position.ofIn y)) := by
        rw [heq]
        exact .of_ungranted ⟨hg.elim (fun h => h.trans hclose) id, rfl⟩
      exact hdone.trans (State.promoteBoth_keeps _)

/-! ### The press station's line -/

theorem State.withdrawBoth_ungranted (s : State) (c d : Nat) :
    ((s.withdrawClose c).withdrawShuttle d).permit.Ungranted := by
  refine ⟨?_, State.withdrawShuttle_shuttleGrant _ d⟩
  have hclose := (s.withdrawClose c).withdrawShuttle_closeGrant d
  rwa [State.withdrawClose_permit, or_self] at hclose

theorem Permit.Ungranted.setPress (h : s.permit.Ungranted) (x : PressState) :
    (s.setPress x).permit.Ungranted := by
  obtain ⟨_, heq⟩ := s.setPress_shape x
  rw [heq]
  exact ⟨h.close, h.shuttle⟩

theorem Permit.Ungranted.setPressSilent (h : s.permit.Ungranted) (v : Bool) :
    (s.setPressSilent v).permit.Ungranted := by
  obtain ⟨_, heq⟩ := s.setPressSilent_shape v
  rw [heq]
  exact ⟨h.close, h.shuttle⟩

theorem State.silencePressed_permit (s : State) (y : Bay) :
    (s.silencePressed y).permit = s.permit := by
  unfold State.silencePressed
  split <;> rfl

/-- R130: the PRESS port goes LOST without a grant left. -/
theorem State.pressLost_keeps (s : State) : KeepsPermits p s s.pressLost := by
  refine .trans (.of_ungranted (Permit.Ungranted.setPressSilent ?_ true))
    (State.promoteBoth_keeps _)
  rw [State.silencePressed_permit, State.silencePressed_permit]
  exact (s.withdrawBoth_ungranted 5 2).setPress .unknown

theorem State.stationLost_keeps (s : State) (r : Role) : KeepsPermits p s (s.stationLost r) := by
  cases r with
  | press => exact s.pressLost_keeps
  | loader => exact .from_basis s.loaderLost_permitBasis (State.cancelWaits_keeps _ .loader)
  | extract =>
    exact (s.cancelWaits_keeps .extract).then_basis (State.extractLost_permitBasis _)
  | line => exact .refl s

theorem State.silenceExpires_keeps (s : State) (i : PortId) :
    KeepsPermits p s (s.silenceExpires i) := by
  unfold State.silenceExpires
  dsimp only
  split
  · exact .from_basis ((State.postAll_permitBasis _ _).trans (State.setPort_permitBasis s i _))
      (State.stationLost_keeps _ _)
  · exact .refl s

theorem State.portValid_keeps (s : State) (i : PortId) : KeepsPermits p s (s.portValid i) := by
  unfold State.portValid
  dsimp only
  have hport : KeepsPermits p s (s.setPort i { s.ports.get i with
      state := .online, timer := s.silenceTimer i }) := .of_basis rfl
  exact .ite _ (hport.trans (State.setPressSilent_false_keeps _)) hport

theorem State.endFrame_keeps (s : State) (i : PortId) (k : ReplyKind) (bytes : List Byte)
    (spare : Fin 8) : KeepsPermits p s (s.endFrame i k bytes spare) := by
  unfold State.endFrame
  dsimp only
  split
  · exact .of_basis (by simp)
  · exact .of_basis (by simp)
  · have hvalid := KeepsPermits.from_basis (p := p) (s.consume_permitBasis i k)
      (State.portValid_keeps _ i)
    exact .ite _ hvalid (hvalid.then_basis (State.takeRequest_permitBasis _ _ _ _))

theorem State.frameEnds_keeps (s : State) (i : PortId) (bytes : List Byte) (spare : Fin 8) :
    KeepsPermits p s (s.frameEnds i bytes spare) := by
  unfold State.frameEnds
  split
  · exact .refl s
  · next f _ =>
    have hended : KeepsPermits p s (s.setFrame i none) := .of_basis rfl
    refine .ite _ hended (hended.trans (.event ?_))
    exact .ite _ (.of_basis (State.lateFrame_permitBasis _ i _)) (State.endFrame_keeps _ i _ _ _)

theorem State.frameExpires_keeps (s : State) (i : PortId) (clocked : Bool) :
    KeepsPermits p s (s.frameExpires i clocked) := by
  unfold State.frameExpires
  split
  · exact .refl s
  · next f _ =>
    refine .ite _ (.refl s) (.event (.of_basis ((State.setFrame_permitBasis _ i _).trans ?_)))
    split
    · exact s.lateFrame_permitBasis i _
    · rfl

/-! ### The charge and the shots -/

theorem State.serial_permitBasis (s : State) (o : Option Nat) :
    { s with serial := o }.permitBasis = s.permitBasis := rfl

theorem State.openCharge_permitBasis (s : State) (n : Nat) (i : Ix16) (r : Recipe)
    (hfree : serialOf s y = none) : (s.openCharge y n i r).permitBasis = s.permitBasis := by
  have hstage : s.shotStage y = none := by
    simpa [serialOf, State.shotStage] using hfree
  have hopened := s.setSlot_permitBasis y (o := some ((Shot.opening n y i r
    (s.recipes.get i).revision (s.bays.get y).mouldId s.stamp).marked s.stamp))
    (by simp [Shot.marked_stage, Shot.opening, hstage])
  exact (State.postSubs_permitBasis _ _).trans ((State.mapSlotUse_permitBasis _ i (· + 1)).trans
    ((State.serial_permitBasis _ (some (n + 1))).trans hopened))

theorem chargeBeginAct_eases (s : State) (bay : Byte) :
    EasesPermits p s (chargeBeginAct bay s).1 := by
  unfold chargeBeginAct
  split
  · exact .refl s
  · split
    · exact s.wake_eases
    · next hok =>
      obtain ⟨-, hfree⟩ := State.judgeCharge_ok hok
      exact s.wake_eases.then_basis (State.openCharge_permitBasis _ _ _ _ hfree)

/-- R106: a shot that becomes CHARGED takes nothing from a close grant. -/
theorem State.advance_charged_eases (s : State) (y : Bay) :
    EasesPermits p s (s.advance y .charged) := by
  unfold State.advance
  split
  · exact .refl s
  · refine ⟨.refl _, fun _ z _ _ hr => ?_⟩
    obtain ⟨hcharged, hdue, hmode, htemp⟩ := hr
    refine ⟨State.charged_iff.2 ((State.setSlot_shotStage _ _ _ _).trans ?_), hdue, hmode, htemp⟩
    split
    · simp [Shot.marked_stage, Shot.enter_stage]
    · exact State.charged_iff.1 hcharged

theorem chargeDoneAct_eases (s : State) (bay : Byte) :
    EasesPermits p s (chargeDoneAct bay s).1 := by
  unfold chargeDoneAct
  split
  · exact .refl s
  · split
    · exact .refl s
    · unfold State.finishCharge
      split
      · exact .refl s
      · split
        · exact .refl s
        · split
          · exact .refl s
          · exact s.advance_charged_eases _

theorem partTakenAct_eases (s : State) (bay condition : Byte) :
    EasesPermits p s (partTakenAct bay condition s).1 := by
  unfold partTakenAct
  split
  · next y d _ _ =>
    split
    · exact .refl s
    · next hstage =>
      split
      · exact .refl s
      · have hnoted : (s.noteDamage y d).permitBasis = s.permitBasis := by
          unfold State.noteDamage
          split
          · exact s.addExc_permitBasis y .partDamaged
          · rfl
        have hejected : (s.noteDamage y d).shotStage y = some .ejected := by
          unfold State.noteDamage
          split
          · rw [State.addExc_shotStage]
            exact Decidable.of_not_not hstage
          · exact Decidable.of_not_not hstage
        exact .from_basis hnoted (State.fileShot_eases _ y .completed fun _ => by simp [hejected])
  · exact .refl s

theorem State.abortEject_permitBasis (s : State) (y : Bay) :
    (s.abortEject y).permitBasis = s.permitBasis := by
  unfold State.abortEject
  split
  · exact s.recordPeak_permitBasis y
  · rfl

theorem State.abortWeigh_permitBasis (s : State) (y : Bay) :
    (s.abortWeigh y).permitBasis = s.permitBasis := by
  unfold State.abortWeigh
  split <;> rfl

theorem State.abortShot_permit (s : State) (y : Bay) :
    (s.abortShot y).permit = ((s.abortWeigh y).abortClose y).permit := by
  obtain ⟨hpermit, -⟩ := Prod.mk.inj
    ((State.addExc_permitBasis _ y .aborted).trans
      (((s.abortWeigh y).abortClose y).abortEject_permitBasis y))
  exact hpermit

theorem State.abortShot_eases (s : State) (y : Bay) : EasesPermits p s (s.abortShot y) := by
  have hclosed : EasesPermits p (s.abortWeigh y) ((s.abortWeigh y).abortClose y) :=
    .ite _ (State.withdrawClose_eases _ _ _) (.refl _)
  exact ((hclosed.then_basis (State.abortEject_permitBasis _ y)).then_basis
    (State.addExc_permitBasis _ y .aborted)).from_basis (s.abortWeigh_permitBasis y)

/-- R18: an abort withdraws the close grant of its bay. -/
theorem State.abortShot_closeGrant (s : State) (y : Bay) :
    (s.abortShot y).permit.closeGrant ≠ some y := by
  obtain ⟨_, heq⟩ := (s.abortWeigh y).abortClose_shape y
  rw [State.abortShot_permit, heq]
  dsimp only
  split
  · nofun
  · next hother => exact hother

theorem shotAbortAct_eases (s : State) (bay : Byte) : EasesPermits p s (shotAbortAct bay s).1 := by
  unfold shotAbortAct
  split
  · exact .refl s
  · next y _ =>
    split
    · exact .refl s
    · exact (s.abortShot_eases y).trans (State.fileShot_eases _ y .aborted fun hgrant =>
        absurd hgrant (s.abortShot_closeGrant y))

/-! ### The end of an ejection -/

theorem State.judgeSticking_keeps (s : State) (y : Bay) : KeepsPermits p s (s.judgeSticking y) := by
  unfold State.judgeSticking
  split
  · exact .from_basis (s.addExc_permitBasis y .sticking) (State.setMouldCheck_keeps _ y true)
  · exact .refl s

/-- R6: a shot leaves its stage for another than CHARGED; the close permit needs that it was not in
CHARGED. -/
theorem State.advance_keeps (s : State) (y : Bay) {st : Stage} (hto : st ≠ .charged)
    (hfrom : p → s.shotStage y ≠ some .charged) : KeepsPermits p s (s.advance y st) where
  shuttle h := h.of_eased (.inl (s.advance_permit y st))
  close hp h := (KeepsPermits.of_basis (p := p) (s.advance_permitBasis y (hfrom hp) hto)).close hp h

theorem State.eject_permitBasis (s : State) (e : Eject) :
    { s with eject := e }.permitBasis = s.permitBasis := rfl

/-- R142: the closing steps of an ejection. -/
theorem State.closeEject_keeps (s : State) (y : Bay) (expired : Bool)
    (hopened : p → s.shotStage y ≠ some .charged) : KeepsPermits p s (s.closeEject y expired) := by
  have hjudged : KeepsPermits p s ((s.recordPeak y).judgeSticking y) :=
    .from_basis (s.recordPeak_permitBasis y) (State.judgeSticking_keeps _ y)
  have hstage : p → ((s.recordPeak y).judgeSticking y).shotStage y ≠ some .charged := by
    rwa [State.judgeSticking_shotStage, State.recordPeak_shotStage]
  unfold State.closeEject
  dsimp only
  generalize (s.recordPeak y).judgeSticking y = j at hjudged hstage ⊢
  have hended : KeepsPermits p s (if expired = true then j.addExc y .ejectTimeout else j) :=
    .ite _ (hjudged.then_basis (j.addExc_permitBasis y .ejectTimeout)) hjudged
  have hleft : p → (if expired = true then j.addExc y .ejectTimeout else j).shotStage y
      ≠ some .charged := by
    rwa [apply_ite (State.shotStage · y), State.addExc_shotStage, ite_self]
  exact (hended.then_basis (State.eject_permitBasis _ Eject.start)).trans
    (State.advance_keeps _ y (by decide) hleft)

theorem EjectLaw.shotStage_ne_charged (h : EjectLaw s) (hejecting : s.ejecting y = true) :
    s.shotStage y ≠ some .charged := by
  rw [h.shotStage_of_ejecting hejecting]
  decide

theorem ejectEndAct_keeps (s : State) (heject : p → EjectLaw s) (bay : Byte) :
    KeepsPermits p s (ejectEndAct bay s).1 := by
  unfold ejectEndAct
  split
  · exact .refl s
  · split
    · next hejecting =>
      exact s.closeEject_keeps _ false fun hp => (heject hp).shotStage_ne_charged hejecting
    · exact .refl s

theorem State.ejectExpires_keeps (s : State) (heject : p → EjectLaw s) :
    KeepsPermits p s s.ejectExpires := by
  unfold State.ejectExpires
  split
  · next y _ _ =>
    split
    · next hejecting =>
      refine .from_basis (State.postAll_permitBasis s _)
        (State.closeEject_keeps _ y true fun hp => ?_)
      exact (heject hp).shotStage_ne_charged hejecting
    · exact .refl s
  · exact .refl s

/-! ### Recipes and moulds -/

theorem State.charged_slot (h : s.readiness.charged y = true) : ∃ sh, s.slots.get y = some sh := by
  have hstage := State.charged_iff.1 h
  unfold State.shotStage at hstage
  obtain ⟨sh, hget, -⟩ := Option.map_eq_some_iff.1 hstage
  exact ⟨sh, hget⟩

/-- R36: what a close grant owes to the recipe under the press stays, if that recipe does. -/
theorem EasesPermits.of_pressRecipe (hpermit : t.permit = s.permit)
    (hready : t.readiness = { s.readiness with upperDue := t.upperDue })
    (hcount : t.upperCount = s.upperCount)
    (hrecipe : p → ∀ y, s.permit.position.inBay = some y → s.readiness.charged y = true →
      t.bayRecipe y = s.bayRecipe y) : EasesPermits p s t where
  permit := .inl hpermit
  ready hp y _ hallows hr := by
    obtain ⟨hcharged, hnot, hmode, htemp⟩ := hr
    have hpress : t.pressRecipe = s.pressRecipe := by
      refine State.pressRecipe_congr (by rw [hpermit]) fun z hz => ?_
      cases hallows.position.symm.trans hz
      exact hrecipe hp y hz hcharged
    rw [hready]
    exact ⟨hcharged, (State.upperDue_congr hpress hcount).trans hnot, hmode, htemp⟩

/-- R27, R29, R31: the recipe of a CHARGED shot's bay is in use, so a slot with the in-use count 0
is another. -/
theorem State.setRecipe_eases (s : State) (huse : p → UseLaw s) (hcontext : p → ContextLaw s)
    {i : Ix16} (hfree : (s.recipes.get i).inUse = 0) (x : RecipeSlot) :
    EasesPermits p s { s with recipes := s.recipes.set i x } := by
  refine .of_pressRecipe rfl rfl rfl fun hp y _ hcharged => ?_
  obtain ⟨sh, hget⟩ := State.charged_slot hcharged
  obtain ⟨-, -, -, hslot, -⟩ := hcontext hp y sh hget
  refine State.bayRecipe_congr rfl rfl fun j hj => ?_
  cases hslot.symm.trans hj
  have hother := (huse hp).not_named hfree hget
  simp [State.recipeAt, hother.symm]

theorem recipeWriteAct_eases (s : State) (huse : p → UseLaw s) (hcontext : p → ContextLaw s)
    (slot : Byte) (fields : RawRecipe) : EasesPermits p s (recipeWriteAct slot fields s).1 := by
  unfold recipeWriteAct
  split
  · exact .refl s
  · split
    · exact .refl s
    · split
      · exact .refl s
      · next hok =>
        exact (s.setRecipe_eases huse hcontext (State.judgeWrite_free hok) _).trans
          (State.rederiveZones_eases _)

theorem recipeEraseAct_eases (s : State) (huse : p → UseLaw s) (hcontext : p → ContextLaw s)
    (slot : Byte) : EasesPermits p s (recipeEraseAct slot s).1 := by
  unfold recipeEraseAct
  split
  · exact .refl s
  · dsimp only
    split
    · exact .refl s
    · next hfree =>
      split
      · exact .refl s
      · split
        · exact .refl s
        · exact s.setRecipe_eases huse hcontext (Nat.eq_zero_of_not_pos hfree) _

/-- R33, R34: the record of a bay without a shot is nothing to a close grant. -/
theorem State.setBay_eases (s : State) (y : Bay) (hfree : s.slots.get y = none) (r : BayRecord) :
    EasesPermits p s (s.setBay y r) := by
  refine .of_pressRecipe rfl rfl rfl fun _ z _ hcharged => ?_
  obtain ⟨sh, hget⟩ := State.charged_slot hcharged
  have hother : y ≠ z := by
    rintro rfl
    cases hfree.symm.trans hget
  have hrecord : (s.setBay y r).bays.get z = s.bays.get z := by simp [hother]
  exact State.bayRecipe_congr (by rw [hrecord]) (by rw [hrecord]) fun _ _ => rfl

theorem State.judgeBind_free {mould : Nat} {i : Ix16} (hok : s.judgeBind y mould i = none) :
    s.slots.get y = none := by
  unfold State.judgeBind at hok
  split at hok
  · cases hok
  · next hfree => exact Option.not_isSome_iff_eq_none.1 hfree

theorem bayBindAct_keeps (s : State) (bay : Byte) (mould : BitVec 16) (slot : Byte) :
    KeepsPermits p s (bayBindAct bay mould slot s).1 := by
  unfold bayBindAct
  split
  · next y i _ _ =>
    split
    · exact .refl s
    · split
      · exact .refl s
      · next hok =>
        have hbound := (s.setBay_eases (p := p) y (State.judgeBind_free hok)
          ((s.bays.get y).bind mould.toNat i)).keeps
        exact (KeepsPermits.ite _ hbound (hbound.trans (State.setMouldCheck_keeps _ _ false))).trans
          (State.rederiveZones_eases _).keeps
  · exact .refl s

theorem bayUnbindAct_eases (s : State) (bay : Byte) : EasesPermits p s (bayUnbindAct bay s).1 := by
  unfold bayUnbindAct
  split
  · exact .refl s
  · split
    · exact .refl s
    · next hfree =>
      split
      · exact .refl s
      · exact (s.setBay_eases _ (Option.not_isSome_iff_eq_none.1 hfree) _).trans
          (State.rederiveZones_eases _)

/-- R36: with the upper count at 0 no upper release is due. -/
theorem State.upperCount_zero_eases (s : State) : EasesPermits p s { s with upperCount := 0 } := by
  refine EasesPermits.of_due rfl rfl fun hdue => ?_
  unfold State.upperDue at hdue
  split at hdue
  · simp at hdue
  · cases hdue

theorem releaseAppliedAct_eases (s : State) (i : PortId) (target : Byte) :
    EasesPermits p s (releaseAppliedAct i target s).1 := by
  unfold releaseAppliedAct
  split
  · exact .refl s
  · split
    · exact .refl s
    · split
      · exact .refl s
      · next hfree =>
        split
        · exact .refl s
        · exact s.setBay_eases _ (Option.not_isSome_iff_eq_none.1 hfree) _
  · split
    · exact .refl s
    · exact s.upperCount_zero_eases

theorem mouldCheckedAct_keeps (s : State) (bay : Byte) :
    KeepsPermits p s (mouldCheckedAct bay s).1 := by
  unfold mouldCheckedAct
  split
  · exact .refl s
  · exact s.setMouldCheck_keeps _ false

/-! ### The heat block's requests and CONFIG SET -/

theorem heatModeAct_eases (s : State) (code : Byte) : EasesPermits p s (heatModeAct code s).1 := by
  unfold heatModeAct
  split
  · exact .refl s
  · exact .from_basis s.cancelPark_permitBasis (State.setMode_eases _ _)

theorem parkAct_eases (s : State) : EasesPermits p s (parkAct s).1 := by
  unfold parkAct
  split
  · exact .refl s
  · split
    · exact (s.setMode_eases .off).then_basis (State.postRole_permitBasis _ _ _)
    · exact .of_basis (s.setPark_permitBasis true)

/-- R70: an enabled flag is no temperature. -/
theorem State.enabled_permitBasis (s : State) (zs : List ZoneId) (v : Bool) :
    { s with heat.zones := Zones.ofFn fun z =>
      if z ∈ zs then { s.heat.zones.get z with enabled := v } else s.heat.zones.get z
    }.permitBasis = s.permitBasis := by
  refine State.permitBasis_eq rfl (fun _ => Iff.rfl) rfl rfl fun z => ?_
  rw [Zones.get_ofFn]
  split <;> rfl

theorem zoneAct_eases (s : State) (zone : Byte) (v : Bool) :
    EasesPermits p s (zoneAct zone v s).1 :=
  .from_basis (s.enabled_permitBasis (zonesOf zone) v) (State.rederiveZones_eases _)

theorem State.restartTimers_permitBasis (s : State) (old : Cfg) :
    ((((s.restartTimer old .n0).restartTimer old .n1).restartTimer old .n2).restartTimer old
      .n3).permitBasis = s.permitBasis := by
  simp only [State.restartTimer_permitBasis]

theorem State.storeItem_eases (s : State) (x : Item) : EasesPermits p s (s.storeItem x) := by
  have hstored : EasesPermits p s
      (if (s.cfg.store x).idleLimit = s.cfg.idleLimit then { s with cfg := s.cfg.store x }
        else { s with cfg := s.cfg.store x, heat.idleTimer := 0 }) :=
    .ite _ (.of_basis rfl) (.of_basis rfl)
  have hderived := EasesPermits.ite ((s.cfg.store x).setbackUpper = s.cfg.setbackUpper
    ∧ (s.cfg.store x).setbackMould = s.cfg.setbackMould) hstored
    (hstored.trans (State.rederiveZones_eases _))
  unfold State.storeItem
  dsimp only
  exact hderived.then_basis (State.restartTimers_permitBasis _ s.cfg)

theorem configSetAct_eases (s : State) (tag : Byte) (data : List Byte) :
    EasesPermits p s (configSetAct tag data s).1 := by
  unfold configSetAct
  split
  · exact .refl s
  · next x _ =>
    split
    · exact .refl s
    · dsimp only
      exact s.storeItem_eases x

/-! ### Starts -/

/-- R193, step 1: a stop leaves no grant. -/
theorem State.halt_keeps (s : State) : KeepsPermits p s s.halt := .of_ungranted ⟨rfl, rfl⟩

theorem State.beginStart_keeps (s : State) (cause : StartKind) :
    KeepsPermits p s (s.beginStart cause) := .of_ungranted ⟨rfl, rfl⟩

/-- A filing within a start finds no grant and leaves none. -/
theorem Permit.Ungranted.fileShot (h : s.permit.Ungranted) (y : Bay) (e : Exc) (o : ShotOutcome) :
    ((s.addExc y e).fileShot y o).permit.Ungranted := by
  have hfiled := State.fileShot_eases (p := True) (s.addExc y e) y o fun hgrant => by
    cases h.close.symm.trans hgrant
  exact hfiled.permit.ungranted h

/-- R193, R195: the heat mode of a start is set without a grant. -/
theorem Permit.Ungranted.startHeat (h : s.permit.Ungranted) (x : HeatMode) :
    (s.startHeat x).permit.Ungranted :=
  have hderived := State.rederiveZones_eases (p := True)
    { s with heat.mode := x, lastHeat := ⟨x, false⟩ }
  hderived.permit.ungranted h

theorem State.deriveNearFull_permit (s : State) : s.deriveNearFull.permit = s.permit := by
  unfold State.deriveNearFull
  split <;> rfl

theorem State.startNotices_permit (s : State) (k : StartKind) :
    (s.startNotices k).permit = s.permit := by
  simp only [State.startNotices, State.deriveNearFull_permit, apply_ite State.permit,
    State.postAll_permit, ite_self]

/-- R193: a start ends without a grant. -/
theorem State.endStart_keeps (s : State) (k : StartKind) (image : List Byte) :
    KeepsPermits p s (s.endStart k image) := by
  have hsetUp : (s.setUpBlocks (loadImage image)).permit.Ungranted := ⟨rfl, rfl⟩
  have hfiled : ((s.setUpBlocks (loadImage image)).startFilings k).permit.Ungranted :=
    (hsetUp.fileShot .a _ _).fileShot .b _ _
  have hretained : (if k = .cold then (s.setUpBlocks (loadImage image)).coldRetained
      else (s.setUpBlocks (loadImage image)).startFilings k).permit.Ungranted := by
    split
    · exact hsetUp
    · exact hfiled
  refine .of_ungranted ?_
  change Permit.Ungranted (State.startNotices _ k).permit
  rw [State.startNotices_permit]
  have hheat := Permit.Ungranted.startHeat (s := State.judgeClock _ k) hretained
  exact ⟨(hheat _).close, (hheat _).shuttle⟩

/-! ### The commands -/

/-- The laws of the open shots that the close permit leans on. -/
def OpenShotLaws (s : State) : Prop := UseLaw s ∧ ContextLaw s ∧ EjectLaw s

/-- R116, R120: every command keeps both laws. -/
theorem exec_keepsPermits (s : State) (c : Instr) :
    ∃ u, exec c s = .next u ∧ KeepsPermits (OpenShotLaws s) s u := by
  have huse : OpenShotLaws s → UseLaw s := fun ⟨h, _, _⟩ => h
  have hcontext : OpenShotLaws s → ContextLaw s := fun ⟨_, h, _⟩ => h
  have heject : OpenShotLaws s → EjectLaw s := fun ⟨_, _, h⟩ => h
  cases c with
  | nop | identify | readShot | readBay | readZone | readCell | recipeRead | historyFind | readNode
  | historyNext => exact ⟨_, rfl, .serve (.refl s)⟩
  | clockSet => exact ⟨_, rfl, .serve (.of_basis rfl)⟩
  | readNotice i => exact ⟨_, rfl, .serve (.of_basis (readNoticeAct_permitBasis s i))⟩
  | subscribe i level codes =>
    exact ⟨_, rfl, .serve (.of_basis (subscribeAct_permitBasis s i level codes))⟩
  | portStatus i named => exact ⟨_, rfl, .serve (.of_basis (portStatusAct_permitBasis s i named))⟩
  | holdAdd i scope reason => exact ⟨_, rfl, .serve (holdAddAct_keeps s i scope reason)⟩
  | holdRemove i scope reason => exact ⟨_, rfl, .serve (holdRemoveAct_keeps s i scope reason)⟩
  | holdClear => exact ⟨_, rfl, .serve (s.removeHolds_keeps _)⟩
  | reportPress i state force => exact ⟨_, rfl, .serve (reportPressAct_keeps s state force)⟩
  | closeRequest => exact ⟨_, rfl, .serve (closeRequestAct_keeps s)⟩
  | shuttleRequest i target => exact ⟨_, rfl, .serve (shuttleRequestAct_keeps s target)⟩
  | shuttleDone i position => exact ⟨_, rfl, .serve (shuttleDoneAct_keeps s position)⟩
  | areaEnter i area => exact ⟨_, rfl, .serve (areaEnterAct_keeps s i area)⟩
  | areaLeave i area => exact ⟨_, rfl, .serve (areaLeaveAct_keeps s i area)⟩
  | forceLeave i area => exact ⟨_, rfl, .serve (forceLeaveAct_keeps s area)⟩
  | chargeBegin i bay => exact ⟨_, rfl, .serve (chargeBeginAct_eases s bay).keeps⟩
  | weighPiece i bay => exact ⟨_, rfl, .serve (.of_basis (weighPieceAct_permitBasis s bay))⟩
  | weighCancel => exact ⟨_, rfl, .serve (.of_basis (weighCancelAct_permitBasis s))⟩
  | removePiece i bay => exact ⟨_, rfl, .serve (.of_basis (removePieceAct_permitBasis s bay))⟩
  | discardCharge i bay => exact ⟨_, rfl, .serve (.of_basis (discardChargeAct_permitBasis s bay))⟩
  | chargeDone i bay => exact ⟨_, rfl, .serve (chargeDoneAct_eases s bay).keeps⟩
  | tare i => exact ⟨_, rfl, .serve (.of_basis (tareAct_permitBasis s i))⟩
  | ejectBegin i bay => exact ⟨_, rfl, .serve (.of_basis (ejectBeginAct_permitBasis s bay))⟩
  | ejectEnd i bay => exact ⟨_, rfl, .serve (ejectEndAct_keeps s heject bay)⟩
  | partTaken i bay condition => exact ⟨_, rfl, .serve (partTakenAct_eases s bay condition).keeps⟩
  | releaseApplied i target => exact ⟨_, rfl, .serve (releaseAppliedAct_eases s i target).keeps⟩
  | recipeWrite i slot fields =>
    exact ⟨_, rfl, .serve (recipeWriteAct_eases s huse hcontext slot fields).keeps⟩
  | recipeErase i slot =>
    exact ⟨_, rfl, .serve (recipeEraseAct_eases s huse hcontext slot).keeps⟩
  | bayBind i bay mould slot => exact ⟨_, rfl, .serve (bayBindAct_keeps s bay mould slot)⟩
  | bayUnbind i bay => exact ⟨_, rfl, .serve (bayUnbindAct_eases s bay).keeps⟩
  | mouldChecked i bay => exact ⟨_, rfl, .serve (mouldCheckedAct_keeps s bay)⟩
  | shotAbort i bay => exact ⟨_, rfl, .serve (shotAbortAct_eases s bay).keeps⟩
  | serialBase i value => exact ⟨_, rfl, .serve (.of_basis (serialBaseAct_permitBasis s value))⟩
  | heatMode i code => exact ⟨_, rfl, .serve (heatModeAct_eases s code).keeps⟩
  | park => exact ⟨_, rfl, .serve (parkAct_eases s).keeps⟩
  | zoneEnable i zone => exact ⟨_, rfl, .serve (zoneAct_eases s zone true).keeps⟩
  | zoneDisable i zone => exact ⟨_, rfl, .serve (zoneAct_eases s zone false).keeps⟩
  | historyAck i serial => exact ⟨_, rfl, .serve (.of_basis (historyAckAct_permitBasis s serial))⟩
  | dispositionSet i serial disposition =>
    exact ⟨_, rfl, .serve (.of_basis (dispositionSetAct_permitBasis s serial disposition))⟩
  | configSet i tag data => exact ⟨_, rfl, .serve (configSetAct_eases s tag data).keeps⟩
  | frameStart i =>
    refine ⟨_, rfl, ?_⟩
    split <;> exact .of_basis rfl
  | frameEnd i bytes spare => exact ⟨_, rfl, s.frameEnds_keeps i bytes spare⟩
  | frameTimeout held => exact ⟨_, rfl, s.frameExpires_keeps held.port held.clocked⟩
  | unknownCode i code params => exact ⟨_, rfl, .ite _ (s.frameEnds_keeps i _ 0) (.refl s)⟩
  | resultReturn i => exact ⟨_, rfl, .event (.of_basis (s.returnResult_permitBasis i))⟩
  | noticeAge => exact ⟨_, rfl, .event (.of_basis rfl)⟩
  | silenceTimerExpiry i => exact ⟨_, rfl, .event (s.silenceExpires_keeps i)⟩
  | heatPeriod => exact ⟨_, rfl, .event s.heatPeriod_eases.keeps⟩
  | idleTimerExpiry => exact ⟨_, rfl, .event s.idleExpires_eases.keeps⟩
  | heaterSwitchOff z => exact ⟨_, rfl, .event (.of_basis (s.switchOff_permitBasis z))⟩
  | roundBegin => exact ⟨_, rfl, .event (.of_basis s.beginRound_permitBasis)⟩
  | pollReply r => exact ⟨_, rfl, .event (.of_basis (s.takeReply_permitBasis r))⟩
  | replyTimeout => exact ⟨_, rfl, .event (.of_basis s.missReply_permitBasis)⟩
  | weighTimerExpiry => exact ⟨_, rfl, .event (.of_basis s.weighExpires_permitBasis)⟩
  | ejectionTimerExpiry => exact ⟨_, rfl, .event (s.ejectExpires_keeps heject)⟩
  | pfwarnAsserted =>
    exact ⟨_, rfl, .from_basis (t := { s with pins.pfwarn := true }) rfl
      (.event (State.enterWarning_keeps _))⟩
  | pfwarnDeasserted =>
    exact ⟨_, rfl, .from_basis (t := { s with pins.pfwarn := false }) rfl
      (.event (State.leaveWarning_keeps _))⟩
  | mainLoss =>
    exact ⟨_, rfl, .from_basis (t := { s with pins.main := false }) rfl (State.halt_keeps _)⟩
  | resetAsserted =>
    exact ⟨_, rfl, .from_basis (t := { s with pins.reset := true }) rfl (State.halt_keeps _)⟩
  | retainLoss | clk32Stopped | clk32Resumed => exact ⟨_, rfl, .of_basis rfl⟩
  | cellTimeSecond => exact ⟨_, rfl, .ite _ (.of_basis rfl) (.refl s)⟩
  | restart => exact ⟨_, rfl, .ite _ (s.beginStart_keeps .restart) (.refl s)⟩
  | resetReleased =>
    have hreleased : KeepsPermits (OpenShotLaws s) s { s with pins.reset := false } := .of_basis rfl
    exact ⟨_, rfl, .ite _ (hreleased.trans (State.beginStart_keeps _ .resetLine)) hreleased⟩
  | mainRise =>
    have hrisen : KeepsPermits (OpenShotLaws s) s { s with pins.main := true } := .of_basis rfl
    exact ⟨_, rfl, .ite _ (.refl s)
      (.ite _ hrisen (hrisen.trans (State.beginStart_keeps _ .mainLoss)))⟩
  | configLoadEnd image =>
    refine ⟨_, rfl, ?_⟩
    split
    · exact s.endStart_keeps _ image
    · exact .refl s
    · exact .refl s

/-- R116, R120: every step keeps both laws. -/
theorem step_keepsPermits (hstep : step s = .next t) : KeepsPermits (OpenShotLaws s) s t := by
  unfold Machine.step at hstep
  split at hstep
  · cases hstep
    exact .refl s
  · next c rest _ =>
    obtain ⟨u, hu, hkeeps⟩ := exec_keepsPermits { s with pending := rest } c
    cases hu.symm.trans hstep
    exact ⟨hkeeps.shuttle, hkeeps.close⟩

theorem State.closeGrant_of_closeOk (h : s.closeOk = true) : s.permit.closeGrant.isSome = true :=
  (Bool.and_eq_true_iff.1 h).2

theorem State.shuttleGrant_of_shuttleOk (h : s.shuttleOk = true) :
    s.permit.shuttleGrant.isSome = true :=
  (Bool.and_eq_true_iff.1 h).2

/-- Settles O34: SHUTTLE_OK follows the grant, and the law command by command from what each of the
operations keeps. -/
theorem shuttleLawIsKept : Obligations.ShuttleLawIsKept := by
  unfold Obligations.ShuttleLawIsKept
  exact ⟨fun _ => State.shuttleGrant_of_shuttleOk,
    fun _ _ h hstep => (step_keepsPermits hstep).shuttle h⟩

/-- Settles O35: CLOSE_OK follows the grant, and the law command by command from what each of the
operations keeps; the laws of the open shots are read before the command alone. -/
theorem closeLawIsKept : Obligations.CloseLawIsKept := by
  unfold Obligations.CloseLawIsKept
  exact ⟨fun _ => State.closeGrant_of_closeOk, fun _ _ _ huse hcontext heject h hstep =>
    (step_keepsPermits hstep).close ⟨huse, hcontext, heject⟩ h⟩

end Sys2Proof.Machine

/-!
R158 to R160: the laws of the history store. They read the store, the number of open shots and
whether the part runs, and nothing else of a state, so this view of a state is all that the proofs
speak of. Seven moves change it: CHARGE BEGIN opens a shot, a filing takes one to the store, HISTORY
ACK and DISPOSITION SET (on a pending record, or on a Taken one) write a record again, and the part
halts and starts. A command leaves the view as it is or takes it through some of these moves; the one
exception is the end of a cold start, which clears it. So each law is judged on the seven moves and
on the cleared view alone.
-/

namespace Sys2Proof.Machine

open Sys2Proof

/-! ### What the laws of the store read -/

/-- What the laws of the history store read of a state. -/
structure StoreView where
  history : History
  openShots : Nat
  phase : Phase

def State.storeView (s : State) : StoreView := ⟨s.history, s.openShots, s.phase⟩

/-- R159, with the counts and the numbers it rests on (R147 to R150). -/
structure StoreView.Lawful (v : StoreView) : Prop where
  used : v.history.slots.length ≤ 512
  counted : v.history.pending = v.history.slots.countP Record.isPending
  distinct : (v.history.slots.map Record.filingNo).Nodup
  bounded : ∀ r ∈ v.history.slots, r.filingNo ≤ v.history.filingCounter
  room : v.history.pending + v.openShots ≤ 512

/-- R160: the near-full flag follows the count while the part runs. -/
def StoreView.Armed (v : StoreView) : Prop :=
  v.phase = .running → (v.history.armed = true ↔ v.history.pending < 448)

/-- R158: what the law of the verdicts says of one record. -/
structure Record.Sound (r : Record) : Prop where
  verdict : r.verdict = verdictOf r.shot.exceptions
  disposition : r.disposition.isSome = true → r.verdict = .hold

theorem storeLaw_iff {s : State} : StoreLaw s ↔ s.storeView.Lawful := by
  constructor
  · rintro ⟨hused, hcounted, hdistinct, hbounded, hroom⟩
    exact ⟨hused, hcounted.trans List.countP_eq_length_filter.symm, hdistinct, hbounded, hroom⟩
  · rintro ⟨hused, hcounted, hdistinct, hbounded, hroom⟩
    exact ⟨hused, hcounted.trans List.countP_eq_length_filter, hdistinct, hbounded, hroom⟩

theorem armedLaw_iff {s : State} : ArmedLaw s ↔ s.storeView.Armed := Iff.rfl

theorem verdictLaw_iff {s : State} :
    VerdictLaw s ↔ ∀ r ∈ s.storeView.history.slots, r.Sound :=
  ⟨fun h r hr =>
    let ⟨hverdict, hdisposition⟩ := h r hr
    ⟨hverdict, hdisposition⟩,
   fun h r hr => ⟨(h r hr).verdict, (h r hr).disposition⟩⟩

/-! ### The moves -/

/-- R160: the near-full flag derived from the pending count. -/
def StoreView.derived (v : StoreView) : StoreView :=
  { v with history.armed := decide (v.history.pending < 448) }

/-- R160: the near-full flag judged after a change of the pending count, in a running part. -/
def StoreView.judged (v : StoreView) : StoreView := if v.phase = .running then v.derived else v

/-- The view that the end of a cold start leaves (R193). -/
def StoreView.cold : StoreView := ⟨History.cold, 0, .running⟩

/-- A record written at a slot, with the pending count that follows. -/
def StoreView.write (v : StoreView) (i : Nat) (r : Record) (n : Nat) : StoreView :=
  { v with history := { v.history.put i r with pending := n } }

/-- One change of the store, of the open shots or of the part's running. -/
inductive StoreMove (v : StoreView) : StoreView → Prop
  /-- R14, R15: a shot is opened where there is room to file it. -/
  | opened (hroom : v.history.pending + v.openShots < 512) :
      StoreMove v { v with openShots := v.openShots + 1 }
  /-- R20, R150: an open shot goes to the store. -/
  | filed (sh : Shot) (o : ShotOutcome) (hopen : 0 < v.openShots) :
      StoreMove v
        { v with history := v.history.place sh o, openShots := v.openShots - 1 }.judged
  /-- R154: a pending record becomes Taken. -/
  | acknowledged {i : Nat} {r : Record} (hget : v.history.slots[i]? = some r)
      (hpending : r.isPending = true) :
      StoreMove v (v.write i r.taken (v.history.pending - 1)).judged
  /-- R157: a pending HOLD record takes its disposition. -/
  | disposed {i : Nat} {r : Record} (d : Disposition) (c : Timestamp)
      (hget : v.history.slots[i]? = some r) (hhold : r.verdict = .hold)
      (hfirst : r.disposition = none) (hpending : r.isTaken = false) :
      StoreMove v (v.write i (r.disposed d c) v.history.pending)
  /-- R157: a Taken HOLD record takes its disposition and is Re-queued. -/
  | requeued {i : Nat} {r : Record} (d : Disposition) (c : Timestamp)
      (hget : v.history.slots[i]? = some r) (hhold : r.verdict = .hold)
      (hfirst : r.disposition = none) (htaken : r.isTaken = true)
      (hroom : v.history.pending + v.openShots < 512) :
      StoreMove v (v.write i (r.disposed d c) (v.history.pending + 1)).judged
  /-- R190, R192: the blocks stop, or a start begins. -/
  | halted (x : Phase) (hstopped : x ≠ .running) : StoreMove v { v with phase := x }
  /-- R160, R193: a start ends, and the flag is derived. -/
  | started : StoreMove v { v.derived with phase := .running }

/-- Some moves, one after the other, or none. -/
inductive StoreMoves (v : StoreView) : StoreView → Prop
  | none : StoreMoves v v
  | next {w x : StoreView} (hmoves : StoreMoves v w) (hmove : StoreMove w x) : StoreMoves v x

/-- The store of the first state comes to that of the second by the moves. -/
def RunsStore (s t : State) : Prop := StoreMoves s.storeView t.storeView

/-! ### Placing a record and writing one again -/

theorem Record.isPending_eq (r : Record) : r.isPending = !r.isTaken := by
  unfold Record.isPending Record.isTaken
  cases r.exported <;> simp

@[simp] theorem Record.taken_isPending (r : Record) : r.taken.isPending = false := rfl

@[simp] theorem Record.disposed_isPending (r : Record) (d : Disposition) (c : Timestamp) :
    (r.disposed d c).isPending = true := by
  simp only [Record.isPending, Record.disposed]
  cases r.exported <;> simp

/-- The record that `lowestFrom` finds passes its test. -/
theorem lowestFrom_passes {f : Record → Bool} {l : List Record} {i j : Nat} {r : Record}
    (hlow : lowestFrom f i l = some (j, r)) : f r = true := by
  induction l generalizing i j r with
  | nil => cases hlow
  | cons x xs ih =>
    unfold lowestFrom at hlow
    split at hlow
    · split at hlow
      · next hx =>
        cases hlow
        exact hx
      · cases hlow
    · next m q hm =>
      split at hlow
      · next hx =>
        cases hlow
        exact (Bool.and_eq_true_iff.1 hx).1
      · cases hlow
        exact ih hm

/-- `lowestFrom` finds nothing only where no record passes its test. -/
theorem lowestFrom_none {f : Record → Bool} {l : List Record} {i : Nat}
    (hlow : lowestFrom f i l = none) : ∀ r ∈ l, f r = false := by
  induction l generalizing i with
  | nil => exact fun _ hr => absurd hr List.not_mem_nil
  | cons x xs ih =>
    unfold lowestFrom at hlow
    split at hlow
    · next hxs =>
      split at hlow
      · cases hlow
      · next hx =>
        exact List.forall_mem_cons.2 ⟨Bool.eq_false_iff.2 hx, ih hxs⟩
    · split at hlow <;> cases hlow

/-- R148, R150: the record of a shot that is filed next. -/
def History.newRecord (h : History) (sh : Shot) (o : ShotOutcome) : Record where
  filingNo := h.filingCounter + 1
  shot := sh
  outcome := o
  verdict := verdictOf sh.exceptions
  disposition := none
  dispositionAt := none
  exported := false
  amended := false

/-- R150: what a filing makes of the used slots: the record joins them while one of the 512 is free,
and overwrites a Taken record after that. -/
inductive History.Placing (h : History) (r : Record) : List Record → Prop
  | appended (hfree : h.slots.length < 512) : Placing h r (h.slots ++ [r])
  | overwritten {i : Nat} {x : Record} (hget : h.slots[i]? = some x) (htaken : x.isTaken = true) :
      Placing h r (h.slots.set i r)
  | crowded (hfull : 512 ≤ h.slots.length) (hpending : ∀ x ∈ h.slots, x.isTaken = false) :
      Placing h r h.slots

theorem History.place_placing (h : History) (sh : Shot) (o : ShotOutcome) :
    ∃ l, h.Placing (h.newRecord sh o) l ∧ h.place sh o
      = { h with slots := l, filingCounter := h.filingCounter + 1, pending := h.pending + 1 } := by
  unfold History.place
  dsimp only
  split
  · next hfree => exact ⟨_, .appended hfree, rfl⟩
  · next hfull =>
    split
    · next i x hlow =>
      obtain ⟨k, rfl, hget⟩ := lowestFrom_getElem? hlow
      rw [Nat.zero_add]
      exact ⟨_, .overwritten hget (lowestFrom_passes hlow), rfl⟩
    · next hlow => exact ⟨_, .crowded (Nat.le_of_not_lt hfull) (lowestFrom_none hlow), rfl⟩

/-! ### The moves keep the counts -/

variable {v w : StoreView}

@[simp] theorem StoreView.judged_slots (v : StoreView) :
    v.judged.history.slots = v.history.slots := by
  unfold StoreView.judged
  split <;> rfl

@[simp] theorem StoreView.judged_filingCounter (v : StoreView) :
    v.judged.history.filingCounter = v.history.filingCounter := by
  unfold StoreView.judged
  split <;> rfl

@[simp] theorem StoreView.judged_pending (v : StoreView) :
    v.judged.history.pending = v.history.pending := by
  unfold StoreView.judged
  split <;> rfl

@[simp] theorem StoreView.judged_openShots (v : StoreView) : v.judged.openShots = v.openShots := by
  unfold StoreView.judged
  split <;> rfl

theorem StoreView.Lawful.judged (h : v.Lawful) : v.judged.Lawful where
  used := by simpa using h.used
  counted := by simpa using h.counted
  distinct := by simpa using h.distinct
  bounded := by simpa using h.bounded
  room := by simpa using h.room

theorem StoreView.Lawful.cold : StoreView.cold.Lawful where
  used := Nat.zero_le _
  counted := rfl
  distinct := List.nodup_nil
  bounded _ hr := absurd hr List.not_mem_nil
  room := Nat.zero_le _

/-- A record of the store written again under its filing number, with the pending count that
follows. -/
theorem StoreView.Lawful.rewritten (h : v.Lawful) {i n : Nat} {r r' : Record}
    (hget : v.history.slots[i]? = some r) (hno : r'.filingNo = r.filingNo)
    (hcount : n = (v.history.pending - if r.isPending = true then 1 else 0)
      + if r'.isPending = true then 1 else 0)
    (hroom : n + v.openShots ≤ 512) :
    (v.write i r' n).Lawful := by
  obtain ⟨hi, rfl⟩ := List.getElem?_eq_some_iff.1 hget
  have hnumbers : (v.history.slots.set i r').map Record.filingNo
      = v.history.slots.map Record.filingNo := by
    rw [List.map_set, hno, ← List.getElem_map Record.filingNo, List.set_getElem_self]
    simpa using hi
  refine ⟨?_, ?_, ?_, fun x hx => ?_, hroom⟩
  · exact Nat.le_trans (Nat.le_of_eq List.length_set) h.used
  · change n = (v.history.slots.set i r').countP Record.isPending
    rw [List.countP_set hi, ← h.counted]
    exact hcount
  · change ((v.history.slots.set i r').map Record.filingNo).Nodup
    exact hnumbers ▸ h.distinct
  · obtain hx | rfl := List.mem_or_eq_of_mem_set hx
    · exact h.bounded x hx
    · exact Nat.le_trans (Nat.le_of_eq hno) (h.bounded _ (List.getElem_mem hi))

theorem StoreView.Lawful.pending_pos (h : v.Lawful) {i : Nat} {r : Record}
    (hget : v.history.slots[i]? = some r) (hpending : r.isPending = true) :
    0 < v.history.pending :=
  h.counted ▸ List.countP_pos_iff.2 ⟨r, List.mem_of_getElem? hget, hpending⟩

/-- R159: while a shot is open a full store holds a Taken record. -/
theorem StoreView.Lawful.not_crowded (h : v.Lawful) (hopen : 0 < v.openShots)
    (hfull : 512 ≤ v.history.slots.length) :
    ¬ ∀ r ∈ v.history.slots, r.isTaken = false := by
  intro hpending
  have hall : v.history.slots.countP Record.isPending = v.history.slots.length :=
    List.countP_eq_length.2 fun r hr => by rw [r.isPending_eq, hpending r hr]; rfl
  have hcounted := h.counted
  have hroom := h.room
  omega

/-- R150, R159: a filing of an open shot. -/
theorem StoreView.Lawful.filed (h : v.Lawful) (sh : Shot) (o : ShotOutcome)
    (hopen : 0 < v.openShots) :
    { v with history := v.history.place sh o
             openShots := v.openShots - 1 : StoreView }.Lawful := by
  obtain ⟨l, hplacing, hplace⟩ := v.history.place_placing sh o
  have hfresh : (v.history.newRecord sh o).filingNo ∉ v.history.slots.map Record.filingNo := by
    intro hmem
    obtain ⟨r, hr, heq⟩ := List.mem_map.1 hmem
    exact absurd (heq ▸ h.bounded r hr) (Nat.not_succ_le_self _)
  have hjoined := List.nodup_cons.2 ⟨hfresh, h.distinct⟩
  have hroom : v.history.pending + 1 + (v.openShots - 1) ≤ 512 := by
    have := h.room
    omega
  have hold : ∀ r ∈ v.history.slots, r.filingNo ≤ v.history.filingCounter + 1 :=
    fun r hr => Nat.le_succ_of_le (h.bounded r hr)
  rw [hplace]
  cases hplacing with
  | appended hfree =>
    refine ⟨?_, ?_, ?_, ?_, hroom⟩
    · simp only [List.length_append, List.length_singleton]
      exact Nat.succ_le_of_lt hfree
    · simp only [List.countP_append, ← h.counted]
      rfl
    · simp only [List.map_append]
      exact (List.perm_append_singleton _ _).nodup_iff.2 hjoined
    · simp only [List.forall_mem_append]
      exact ⟨hold, List.forall_mem_singleton.2 (Nat.le_refl _)⟩
  | @overwritten i x hget htaken =>
    obtain ⟨hi, rfl⟩ := List.getElem?_eq_some_iff.1 hget
    refine ⟨?_, ?_, ?_, fun r hr => ?_, hroom⟩
    · exact Nat.le_trans (Nat.le_of_eq List.length_set) h.used
    · dsimp only
      rw [List.countP_set hi, Record.isPending_eq (v.history.slots[i]), htaken, ← h.counted]
      rfl
    · dsimp only
      rw [List.map_set]
      have hi' : i < (v.history.slots.map Record.filingNo).length := by rwa [List.length_map]
      obtain ⟨-, hset⟩ :=
        List.nodup_cons.1 ((cons_perm_getElem_cons_set hi' _).nodup_iff.1 hjoined)
      exact hset
    · obtain hr | rfl := List.mem_or_eq_of_mem_set hr
      · exact hold r hr
      · exact Nat.le_refl _
  | crowded hfull hpending => exact absurd hpending (h.not_crowded hopen hfull)

/-- R159: every move keeps the counts. -/
theorem StoreMove.lawful (hmove : StoreMove v w) (h : v.Lawful) : w.Lawful := by
  have hroom := h.room
  cases hmove with
  | opened hfree => exact ⟨h.used, h.counted, h.distinct, h.bounded, by dsimp only; omega⟩
  | filed sh o hopen => exact (h.filed sh o hopen).judged
  | acknowledged hget hpending =>
    refine StoreView.Lawful.judged (h.rewritten hget rfl ?_ ?_)
    · simp [hpending]
    · omega
  | @disposed i r d c hget hhold hfirst hkept =>
    have hpending : r.isPending = true := by rw [r.isPending_eq, hkept]; rfl
    have hpos := h.pending_pos hget hpending
    refine h.rewritten hget rfl ?_ hroom
    simp only [hpending, Record.disposed_isPending, if_true]
    omega
  | @requeued i r d c hget hhold hfirst htaken hfree =>
    refine StoreView.Lawful.judged (h.rewritten hget rfl ?_ ?_)
    · simp [r.isPending_eq, htaken]
    · omega
  | halted x hstopped => exact ⟨h.used, h.counted, h.distinct, h.bounded, hroom⟩
  | started => exact ⟨h.used, h.counted, h.distinct, h.bounded, hroom⟩

/-! ### The moves keep the near-full flag -/

theorem StoreView.derived_eq {b : Bool} (hb : decide (v.history.pending < 448) = b) :
    v.derived = { v with history.armed := b } := by
  subst hb
  rfl

theorem StoreView.judged_armed (v : StoreView) : v.judged.Armed := by
  unfold StoreView.judged
  split
  · exact fun _ => decide_eq_true_iff
  · next hstopped => exact fun hrunning => absurd hrunning hstopped

/-- R160: every move that changes the count judges the flag. -/
theorem StoreMove.armed (hmove : StoreMove v w) (h : v.Armed) : w.Armed := by
  cases hmove with
  | opened => exact h
  | filed => exact StoreView.judged_armed _
  | acknowledged => exact StoreView.judged_armed _
  | disposed => exact h
  | requeued => exact StoreView.judged_armed _
  | halted x hstopped => exact fun hrunning => absurd hrunning hstopped
  | started => exact fun _ => decide_eq_true_iff

/-! ### The moves keep the records -/

/-- R158: a record later in its stay: what is fixed at the filing, a disposition that it has, and
that only a HOLD record is given one. -/
structure Record.Continues (r r' : Record) : Prop where
  filingNo : r'.filingNo = r.filingNo
  shot : r'.shot = r.shot
  outcome : r'.outcome = r.outcome
  verdict : r'.verdict = r.verdict
  kept : r.disposition.isSome = true →
    r'.disposition = r.disposition ∧ r'.dispositionAt = r.dispositionAt
  given : r'.disposition.isSome = true → r.disposition.isSome = true ∨ r.verdict = .hold

/-- R150, R158: every record of the later store continues one of the earlier store, or was filed
since under a higher number. -/
structure History.Grows (h h' : History) : Prop where
  counter : h.filingCounter ≤ h'.filingCounter
  records : ∀ r' ∈ h'.slots, (∃ r ∈ h.slots, r.Continues r')
    ∨ (h.filingCounter < r'.filingNo ∧ r'.Sound)

variable {r r' r'' : Record} {h h' h'' : History}

theorem Record.Continues.refl (r : Record) : r.Continues r :=
  ⟨rfl, rfl, rfl, rfl, fun _ => ⟨rfl, rfl⟩, .inl⟩

theorem Record.Continues.trans (hr : r.Continues r') (hr' : r'.Continues r'') :
    r.Continues r'' where
  filingNo := hr'.filingNo.trans hr.filingNo
  shot := hr'.shot.trans hr.shot
  outcome := hr'.outcome.trans hr.outcome
  verdict := hr'.verdict.trans hr.verdict
  kept hset := by
    obtain ⟨hd, hat⟩ := hr.kept hset
    obtain ⟨hd', hat'⟩ := hr'.kept (hd ▸ hset)
    exact ⟨hd'.trans hd, hat'.trans hat⟩
  given hset := by
    obtain hset' | hhold := hr'.given hset
    · exact hr.given hset'
    · exact .inr (hr.verdict ▸ hhold)

theorem Record.Continues.sound (hr : r.Continues r') (hsound : r.Sound) : r'.Sound where
  verdict := by rw [hr.verdict, hr.shot, hsound.verdict]
  disposition hset := by
    rw [hr.verdict]
    obtain hset' | hhold := hr.given hset
    · exact hsound.disposition hset'
    · exact hhold

theorem Record.continues_taken (r : Record) : r.Continues r.taken :=
  ⟨rfl, rfl, rfl, rfl, fun _ => ⟨rfl, rfl⟩, .inl⟩

/-- R157: the first disposition of a HOLD record. -/
theorem Record.continues_disposed (d : Disposition) (c : Timestamp) (hhold : r.verdict = .hold)
    (hfirst : r.disposition = none) : r.Continues (r.disposed d c) :=
  ⟨rfl, rfl, rfl, rfl, fun hset => by simp [hfirst] at hset, fun _ => .inr hhold⟩

theorem History.newRecord_sound (h : History) (sh : Shot) (o : ShotOutcome) :
    (h.newRecord sh o).Sound :=
  ⟨rfl, fun hset => nomatch hset⟩

theorem History.Grows.of_slots (hcounter : h'.filingCounter = h.filingCounter)
    (hslots : h'.slots = h.slots) : h.Grows h' where
  counter := Nat.le_of_eq hcounter.symm
  records r' hr' := .inl ⟨r', hslots ▸ hr', .refl r'⟩

theorem History.Grows.trans (hh : h.Grows h') (hh' : h'.Grows h'') : h.Grows h'' where
  counter := Nat.le_trans hh.counter hh'.counter
  records r'' hr'' := by
    obtain ⟨r', hr', hlater⟩ | ⟨hnew, hsound⟩ := hh'.records r'' hr''
    · obtain ⟨r, hr, hlate⟩ | ⟨hnew, hsound⟩ := hh.records r' hr'
      · exact .inl ⟨r, hr, hlate.trans hlater⟩
      · exact .inr ⟨hlater.filingNo ▸ hnew, hlater.sound hsound⟩
    · exact .inr ⟨Nat.lt_of_le_of_lt hh.counter hnew, hsound⟩

theorem History.Grows.rewritten {i : Nat} (hget : h.slots[i]? = some r) (hr : r.Continues r')
    (hcounter : h'.filingCounter = h.filingCounter) (hslots : h'.slots = h.slots.set i r') :
    h.Grows h' where
  counter := Nat.le_of_eq hcounter.symm
  records x hx := by
    obtain hx | rfl := List.mem_or_eq_of_mem_set (hslots ▸ hx)
    · exact .inl ⟨x, hx, .refl x⟩
    · exact .inl ⟨r, List.mem_of_getElem? hget, hr⟩

theorem History.Placing.mem {l : List Record} (hplacing : h.Placing r l) {x : Record}
    (hx : x ∈ l) : x ∈ h.slots ∨ x = r := by
  cases hplacing with
  | appended => exact (List.mem_append.1 hx).imp_right List.mem_singleton.1
  | overwritten => exact List.mem_or_eq_of_mem_set hx
  | crowded => exact .inl hx

theorem History.grows_place (h : History) (sh : Shot) (o : ShotOutcome) :
    h.Grows (h.place sh o) := by
  obtain ⟨l, hplacing, hplace⟩ := h.place_placing sh o
  rw [hplace]
  refine ⟨Nat.le_succ _, fun x hx => ?_⟩
  obtain hx | rfl := hplacing.mem hx
  · exact .inl ⟨x, hx, .refl x⟩
  · exact .inr ⟨Nat.lt_succ_self _, h.newRecord_sound sh o⟩

/-- R158: every move leaves the records their shot, outcome, verdict and disposition. -/
theorem StoreMove.grows (hmove : StoreMove v w) : v.history.Grows w.history := by
  have judges : ∀ {x : StoreView}, v.history.Grows x.history → v.history.Grows x.judged.history :=
    fun hx => hx.trans (.of_slots (StoreView.judged_filingCounter _) (StoreView.judged_slots _))
  cases hmove with
  | opened | halted | started => exact .of_slots rfl rfl
  | filed sh o hopen => exact judges (v.history.grows_place sh o)
  | acknowledged hget hpending => exact judges (.rewritten hget (Record.continues_taken _) rfl rfl)
  | disposed d c hget hhold hfirst hkept =>
    exact .rewritten hget (Record.continues_disposed d c hhold hfirst) rfl rfl
  | requeued d c hget hhold hfirst htaken hroom =>
    exact judges (.rewritten hget (Record.continues_disposed d c hhold hfirst) rfl rfl)

/-! ### What the moves keep, one after the other -/

variable {x : StoreView}

theorem StoreMoves.trans (hv : StoreMoves v w) (hw : StoreMoves w x) : StoreMoves v x := by
  induction hw with
  | none => exact hv
  | next _ hmove ih => exact ih.next hmove

theorem StoreMoves.lawful (hmoves : StoreMoves v w) (h : v.Lawful) : w.Lawful := by
  induction hmoves with
  | none => exact h
  | next _ hmove ih => exact hmove.lawful ih

theorem StoreMoves.armed (hmoves : StoreMoves v w) (h : v.Armed) : w.Armed := by
  induction hmoves with
  | none => exact h
  | next _ hmove ih => exact hmove.armed ih

theorem StoreMoves.grows (hmoves : StoreMoves v w) : v.history.Grows w.history := by
  induction hmoves with
  | none => exact .of_slots rfl rfl
  | next _ hmove ih => exact ih.trans hmove.grows

namespace RunsStore

variable {s t u : State}

theorem of_view (hsame : t.storeView = s.storeView) : RunsStore s t := by
  unfold RunsStore
  rw [hsame]
  exact .none

theorem refl (s : State) : RunsStore s s := of_view rfl

theorem trans (hs : RunsStore s t) (ht : RunsStore t u) : RunsStore s u := StoreMoves.trans hs ht

theorem of_move (hmove : StoreMove s.storeView t.storeView) : RunsStore s t :=
  StoreMoves.next .none hmove

theorem then_view (hs : RunsStore s t) (hsame : u.storeView = t.storeView) : RunsStore s u :=
  hs.trans (of_view hsame)

theorem from_view (hsame : t.storeView = s.storeView) (ht : RunsStore t u) : RunsStore s u :=
  (of_view hsame).trans ht

theorem ite (c : Prop) [Decidable c] (ht : RunsStore s t) (hu : RunsStore s u) :
    RunsStore s (if c then t else u) := by
  split
  · exact ht
  · exact hu

end RunsStore

/-! ### What leaves the view as it is -/

section Frames

variable (s : State)

@[simp] theorem State.postRole_storeView (r : Role) (n : Notice) :
    (s.postRole r n).storeView = s.storeView := rfl

@[simp] theorem State.postAll_storeView (n : Notice) : (s.postAll n).storeView = s.storeView := rfl

@[simp] theorem State.postSubs_storeView (n : Notice) : (s.postSubs n).storeView = s.storeView := rfl

@[simp] theorem State.setBuffer_storeView (p : PortId) (b : Buffer) :
    (s.setBuffer p b).storeView = s.storeView := rfl

@[simp] theorem State.setPark_storeView (v : Bool) : (s.setPark v).storeView = s.storeView := rfl

/-- Another context in a slot that holds one, or none in one that holds none. -/
theorem State.setSlot_storeView (y : Bay) {o : Option Shot}
    (ho : o.isSome = (s.slots.get y).isSome) : (s.setSlot y o).storeView = s.storeView := by
  have hopen : (s.setSlot y o).openShots = s.openShots := by
    cases y <;> simp [State.openShots, ho]
  simp [State.storeView, hopen]

theorem State.setSlot_some_storeView {y : Bay} {sh : Shot} (sh' : Shot)
    (hget : s.slots.get y = some sh) : (s.setSlot y (some sh')).storeView = s.storeView :=
  s.setSlot_storeView y (by rw [hget]; rfl)

@[simp] theorem State.mapShot_storeView (y : Bay) (f : Shot → Shot) :
    (s.mapShot y f).storeView = s.storeView :=
  s.setSlot_storeView y Option.isSome_map

@[simp] theorem State.addExc_storeView (y : Bay) (e : Exc) :
    (s.addExc y e).storeView = s.storeView :=
  s.mapShot_storeView y _

@[simp] theorem State.advance_storeView (y : Bay) (st : Stage) :
    (s.advance y st).storeView = s.storeView := by
  unfold State.advance
  split
  · rfl
  · next hget => exact s.setSlot_some_storeView _ hget

@[simp] theorem State.withdrawClose_storeView (c z : Nat) :
    (s.withdrawClose c z).storeView = s.storeView := by
  obtain ⟨_, heq⟩ := s.withdrawClose_shape c z
  exact heq ▸ rfl

@[simp] theorem State.handFlags_storeView (old : Zones Zone) :
    (s.handFlags old).storeView = s.storeView := by
  obtain ⟨_, _, _, heq⟩ := s.handFlags_shape old
  exact heq ▸ rfl

@[simp] theorem State.rederiveZones_storeView : s.rederiveZones.storeView = s.storeView := by
  obtain ⟨_, _, _, _, heq⟩ := s.rederiveZones_shape
  exact heq ▸ rfl

@[simp] theorem State.setMode_storeView (m : HeatMode) :
    (s.setMode m).storeView = s.storeView := by
  obtain ⟨_, _, _, _, heq⟩ := s.setMode_shape m
  exact heq ▸ rfl

@[simp] theorem State.wake_storeView : s.wake.storeView = s.storeView := by
  obtain ⟨_, _, _, _, _, _, heq⟩ := s.wake_shape
  exact heq ▸ rfl

@[simp] theorem State.setPress_storeView (x : PressState) :
    (s.setPress x).storeView = s.storeView := by
  obtain ⟨_, heq⟩ := s.setPress_shape x
  exact heq ▸ rfl

@[simp] theorem State.setPosition_storeView (x : Position) :
    (s.setPosition x).storeView = s.storeView := by
  obtain ⟨_, _, _, _, heq⟩ := s.setPosition_shape x
  exact heq ▸ rfl

@[simp] theorem State.withdrawShuttle_storeView (c : Nat) :
    (s.withdrawShuttle c).storeView = s.storeView := by
  obtain ⟨_, _, _, _, _, _, heq⟩ := s.withdrawShuttle_shape c
  exact heq ▸ rfl

@[simp] theorem State.blockGrants_storeView (sc : Scope) :
    (s.blockGrants sc).storeView = s.storeView := by
  obtain ⟨_, _, _, _, _, _, _, heq⟩ := s.blockGrants_shape sc
  exact heq ▸ rfl

@[simp] theorem State.setPressSilent_storeView (v : Bool) :
    (s.setPressSilent v).storeView = s.storeView := by
  obtain ⟨_, heq⟩ := s.setPressSilent_shape v
  exact heq ▸ rfl

@[simp] theorem State.setPowerWarn_storeView (v : Bool) :
    (s.setPowerWarn v).storeView = s.storeView := by
  obtain ⟨_, heq⟩ := s.setPowerWarn_shape v
  exact heq ▸ rfl

@[simp] theorem State.setMouldCheck_storeView (y : Bay) (v : Bool) :
    (s.setMouldCheck y v).storeView = s.storeView := by
  obtain ⟨_, _, _, _, _, heq⟩ := s.setMouldCheck_shape y v
  exact heq ▸ rfl

@[simp] theorem State.promote_storeView (r : Area) : (s.promote r).storeView = s.storeView := by
  obtain ⟨_, _, heq⟩ := s.promote_shape r
  exact heq ▸ rfl

@[simp] theorem State.promoteBoth_storeView : s.promoteBoth.storeView = s.storeView := by
  obtain ⟨_, _, heq⟩ := s.promoteBoth_shape
  exact heq ▸ rfl

@[simp] theorem State.settle_storeView (before : State) :
    (s.settle before).storeView = s.storeView := by
  obtain ⟨_, _, _, heq⟩ := s.settle_shape before
  exact heq ▸ rfl

@[simp] theorem State.raiseCounts_storeView (y : Bay) (sh : Shot) :
    (s.raiseCounts y sh).storeView = s.storeView := by
  obtain ⟨_, heq⟩ := s.raiseCounts_shape y sh
  exact heq ▸ rfl

@[simp] theorem State.withdrawIfDue_storeView (wasDue : Bool) :
    (s.withdrawIfDue wasDue).storeView = s.storeView := by
  unfold State.withdrawIfDue
  split <;> simp

@[simp] theorem State.completePark_storeView : s.completePark.storeView = s.storeView := by
  unfold State.completePark
  split <;> simp

/-! ### Weighing and demoulding -/

@[simp] theorem State.weighLost_storeView (a : Nat) : (s.weighLost a).storeView = s.storeView := by
  unfold State.weighLost
  split <;> rfl

@[simp] theorem State.endDead_storeView : s.endDead.storeView = s.storeView := by
  unfold State.endDead
  split
  · exact s.weighLost_storeView _
  · rfl

theorem State.capture_storeView (y : Bay) : (s.capture y).storeView = s.storeView := by
  unfold State.capture
  dsimp only
  split
  · rfl
  · split
    · rfl
    · exact s.mapShot_storeView y _

theorem State.judgeWeigh_storeView : s.judgeWeigh.storeView = s.storeView := by
  unfold State.judgeWeigh
  split
  · split
    · rfl
    · exact s.capture_storeView _
    · rfl
  · rfl

theorem State.weighExpires_storeView : s.weighExpires.storeView = s.storeView := by
  unfold State.weighExpires
  split
  · rfl
  · split <;> rfl

@[simp] theorem State.stopEject_storeView (c : StopCause) :
    (s.stopEject c).storeView = s.storeView := by
  unfold State.stopEject
  split <;> rfl

theorem State.forceArrival_storeView (y : Bay) (v : Nat) (overrange : Bool) :
    (s.forceArrival y v overrange).storeView = s.storeView := by
  unfold State.forceArrival
  split
  · dsimp only
    split
    · simp only [State.postAll_storeView, State.addExc_storeView, State.stopEject_storeView]
      rfl
    · rfl
  · rfl

@[simp] theorem State.blindAlarm_storeView (y : Bay) (a : Nat) :
    (s.blindAlarm y a).storeView = s.storeView :=
  s.addExc_storeView y .forceBlind

theorem State.forceLost_storeView (y : Bay) (a : Nat) :
    (s.forceLost y a).storeView = s.storeView := by
  unfold State.forceLost
  split <;> simp

@[simp] theorem State.judgeSticking_storeView (y : Bay) :
    (s.judgeSticking y).storeView = s.storeView := by
  unfold State.judgeSticking
  split <;> simp

theorem State.closeEject_storeView (y : Bay) (expired : Bool) :
    (s.closeEject y expired).storeView = s.storeView := by
  have hjudged : ((s.recordPeak y).judgeSticking y).storeView = s.storeView :=
    ((s.recordPeak y).judgeSticking_storeView y).trans (s.mapShot_storeView y _)
  unfold State.closeEject
  refine (State.advance_storeView _ y .ejected).trans ?_
  cases expired
  · exact hjudged
  · exact (State.addExc_storeView _ y .ejectTimeout).trans hjudged

theorem State.startEject_storeView (y : Bay) (sh : Shot) :
    (s.startEject y sh).storeView = s.storeView := by
  unfold State.startEject
  dsimp only
  split
  · exact (State.blindAlarm_storeView _ y _).trans rfl
  · rfl

theorem State.ejectExpires_storeView : s.ejectExpires.storeView = s.storeView := by
  unfold State.ejectExpires
  split
  · split
    · exact (State.closeEject_storeView _ _ true).trans rfl
    · rfl
  · rfl

/-! ### The sensor link -/

theorem State.handLoss_storeView (n : Ix16) : (s.handLoss n).storeView = s.storeView := by
  unfold State.handLoss
  split
  · exact s.weighLost_storeView _
  · exact s.forceLost_storeView .a _
  · exact s.forceLost_storeView .b _
  · rfl

theorem State.nodeMiss_storeView (n : Ix16) (r : MissReason) :
    (s.nodeMiss n r).storeView = s.storeView := by
  unfold State.nodeMiss
  dsimp only
  split
  · exact (State.handLoss_storeView _ n).trans rfl
  · rfl

theorem State.loadArrival_storeView (c : Chan) (x : LoadSample) :
    (s.loadArrival c x).storeView = s.storeView := by
  cases c with
  | w => exact (State.judgeWeigh_storeView _).trans rfl
  | fa => exact (State.forceArrival_storeView _ .a _ _).trans rfl
  | fb => exact (State.forceArrival_storeView _ .b _ _).trans rfl

theorem State.deliver_storeView (n : Ix16) (d : NodeData) :
    (s.deliver n d).storeView = s.storeView := by
  unfold State.deliver
  split
  · rfl
  · split
    · exact s.loadArrival_storeView _ _
    · rfl

theorem State.nodeGood_storeView (n : Ix16) (d : NodeData) :
    (s.nodeGood n d).storeView = s.storeView := by
  unfold State.nodeGood
  refine (State.deliver_storeView _ n d).trans ?_
  split <;> rfl

theorem State.takeReply_storeView (r : NodeReply) : (s.takeReply r).storeView = s.storeView := by
  unfold State.takeReply
  split
  · rfl
  · next n _ =>
    cases s.replyMiss n r with
    | some m => exact s.nodeMiss_storeView n m
    | none => exact s.nodeGood_storeView n r.data

theorem State.missReply_storeView : s.missReply.storeView = s.storeView := by
  unfold State.missReply
  split
  · rfl
  · exact s.nodeMiss_storeView _ .timeout

theorem State.beginRound_storeView : s.beginRound.storeView = s.storeView := by
  unfold State.beginRound
  split <;> rfl

/-! ### Ports and frames -/

@[simp] theorem State.raiseFlag_storeView (p : PortId) (n : FlagName) :
    (s.raiseFlag p n).storeView = s.storeView := by
  obtain ⟨_, heq⟩ := s.raiseFlag_shape p n
  exact heq ▸ rfl

@[simp] theorem State.badFrame_storeView (p : PortId) (k : ReplyKind) (n : FlagName) :
    (s.badFrame p k n).storeView = s.storeView := by
  obtain ⟨_, heq⟩ := s.badFrame_shape p k n
  exact heq ▸ rfl

@[simp] theorem State.lateFrame_storeView (p : PortId) (k : ReplyKind) :
    (s.lateFrame p k).storeView = s.storeView := by
  obtain ⟨_, heq⟩ := s.lateFrame_shape p k
  exact heq ▸ rfl

@[simp] theorem State.consume_storeView (p : PortId) (k : ReplyKind) :
    (s.consume p k).storeView = s.storeView := by
  unfold State.consume
  split <;> rfl

@[simp] theorem State.portValid_storeView (p : PortId) : (s.portValid p).storeView = s.storeView := by
  unfold State.portValid
  dsimp only
  split
  · exact State.setPressSilent_storeView _ false
  · rfl

@[simp] theorem State.takeRequest_storeView (p : PortId) (code : Byte) (params : List Byte) :
    (s.takeRequest p code params).storeView = s.storeView := by
  unfold State.takeRequest
  split
  · simp
  · split
    · simp
    · split <;> rfl

theorem State.endFrame_storeView (p : PortId) (k : ReplyKind) (bytes : List Byte) (spare : Fin 8) :
    (s.endFrame p k bytes spare).storeView = s.storeView := by
  unfold State.endFrame
  dsimp only
  split
  · simp
  · simp
  · split <;> simp

theorem State.returnResult_storeView (p : PortId) : (s.returnResult p).storeView = s.storeView := by
  unfold State.returnResult
  split <;> rfl

theorem State.event_storeView {f : State → State}
    (hf : ∀ u : State, (f u).storeView = u.storeView) : (s.event f).storeView = s.storeView := by
  unfold State.event
  split
  · rw [State.settle_storeView, hf]
  · rfl

theorem State.frameEnds_storeView (p : PortId) (bytes : List Byte) (spare : Fin 8) :
    (s.frameEnds p bytes spare).storeView = s.storeView := by
  unfold State.frameEnds
  split
  · rfl
  · dsimp only
    split
    · rfl
    · refine (State.event_storeView _ fun u => ?_).trans rfl
      split
      · exact u.lateFrame_storeView p _
      · exact u.endFrame_storeView p _ bytes spare

theorem State.frameExpires_storeView (p : PortId) (clocked : Bool) :
    (s.frameExpires p clocked).storeView = s.storeView := by
  unfold State.frameExpires
  split
  · rfl
  · split
    · rfl
    · refine s.event_storeView fun u => ?_
      cases clocked
      · rfl
      · exact u.lateFrame_storeView p _

/-! ### A port going LOST -/

@[simp] theorem State.silencePressed_storeView (y : Bay) :
    (s.silencePressed y).storeView = s.storeView := by
  unfold State.silencePressed
  split <;> simp

theorem State.pressLost_storeView : s.pressLost.storeView = s.storeView := by
  simp [State.pressLost]

theorem State.loaderLost_storeView : s.loaderLost.storeView = s.storeView := by
  unfold State.loaderLost
  split
  · rfl
  · split <;> rfl
  · rfl

@[simp] theorem State.cancelWait_storeView (u : AreaUser) (r : Area) :
    (s.cancelWait u r).storeView = s.storeView := by
  unfold State.cancelWait
  dsimp only
  split <;> rfl

@[simp] theorem State.cancelWaits_storeView (u : AreaUser) :
    (s.cancelWaits u).storeView = s.storeView := by
  simp [State.cancelWaits]

theorem State.extractLost_storeView : s.extractLost.storeView = s.storeView := by
  unfold State.extractLost
  split
  · split <;> simp
  · rfl

theorem State.stationLost_storeView (r : Role) : (s.stationLost r).storeView = s.storeView := by
  cases r with
  | press => exact s.pressLost_storeView
  | loader => exact (State.cancelWaits_storeView _ .loader).trans s.loaderLost_storeView
  | extract => exact (State.extractLost_storeView _).trans (s.cancelWaits_storeView .extract)
  | line => rfl

theorem State.silenceExpires_storeView (p : PortId) :
    (s.silenceExpires p).storeView = s.storeView := by
  unfold State.silenceExpires
  dsimp only
  split
  · exact (State.stationLost_storeView _ _).trans rfl
  · rfl

/-! ### The cure step and the heat period -/

@[simp] theorem State.makeCured_storeView (y : Bay) (d : Nat) (byTime : Bool) :
    (s.makeCured y d byTime).storeView = s.storeView :=
  s.advance_storeView y .cured

theorem State.judgeCured_storeView (y : Bay) (sh : Shot) (r : Recipe) :
    (s.judgeCured y sh r).storeView = s.storeView := by
  unfold State.judgeCured
  split
  · simp
  · split <;> simp

theorem State.judgeOverstay_storeView (y : Bay) (sh : Shot) (r : Recipe) :
    (s.judgeOverstay y sh r).storeView = s.storeView := by
  unfold State.judgeOverstay
  split
  · split <;> simp
  · rfl

@[simp] theorem State.cureStep_storeView (y : Bay) : (s.cureStep y).storeView = s.storeView := by
  unfold State.cureStep
  split
  · rfl
  · next hget =>
    split
    · split
      · rfl
      · dsimp only
        split
        · exact (State.judgeCured_storeView _ y _ _).trans (s.setSlot_some_storeView _ hget)
        · exact (State.judgeOverstay_storeView _ y _ _).trans (s.setSlot_some_storeView _ hget)
    · rfl

theorem State.takeUpNotices_storeView (old : State) (zs : List ZoneId) :
    (s.takeUpNotices old zs).storeView = s.storeView := by
  induction zs generalizing s with
  | nil => rfl
  | cons z zs ih =>
    refine (ih _).trans ?_
    split
    · rfl
    · split <;> rfl

theorem State.clearFresh_storeView (zs : List ZoneId) :
    (s.clearFresh zs).storeView = s.storeView := by
  induction zs generalizing s with
  | nil => rfl
  | cons z zs ih =>
    unfold State.clearFresh
    split
    · exact ih s
    · exact ih _

theorem State.takeUpStage_storeView : s.takeUpStage.storeView = s.storeView :=
  (State.clearFresh_storeView _ ZoneId.all).trans (s.takeUpNotices_storeView s ZoneId.all)

@[simp] theorem State.notePowerLimited_storeView : s.notePowerLimited.storeView = s.storeView := by
  unfold State.notePowerLimited
  split
  · rfl
  · split <;> simp

theorem State.rampStageAll_storeView (before : State) :
    (s.rampStageAll before).storeView = s.storeView := rfl

theorem State.piStageAll_storeView : s.piStageAll.storeView = s.storeView := rfl

theorem State.arbitrateAll_storeView : s.arbitrateAll.storeView = s.storeView := rfl

theorem State.heatStages_storeView : s.heatStages.storeView = s.storeView := by
  simp only [State.heatStages, State.notePowerLimited_storeView, State.arbitrateAll_storeView,
    State.piStageAll_storeView, State.rampStageAll_storeView, State.takeUpStage_storeView]

theorem State.idleTick_storeView : s.idleTick.storeView = s.storeView := by
  unfold State.idleTick
  split <;> rfl

theorem State.heatPeriod_storeView : s.heatPeriod.storeView = s.storeView := by
  simp only [State.heatPeriod, State.handOff, State.idleTick_storeView, State.handFlags_storeView,
    State.cureStep_storeView, State.heatStages_storeView]

theorem State.idleExpires_storeView : s.idleExpires.storeView = s.storeView := by
  unfold State.idleExpires
  split
  · exact State.setMode_storeView _ .setbackAuto
  · rfl

theorem State.switchOff_storeView (z : ZoneId) : (s.switchOff z).storeView = s.storeView := by
  unfold State.switchOff
  split <;> rfl

/-! ### The requests of the port block and of the permit block -/

theorem readNoticeAct_storeView (p : PortId) : (readNoticeAct p s).1.storeView = s.storeView := by
  unfold readNoticeAct
  dsimp only
  split <;> rfl

theorem subscribeAct_storeView (p : PortId) (level : Byte) (codes : List Byte) :
    (subscribeAct p level codes s).1.storeView = s.storeView := by
  unfold subscribeAct
  split
  · rfl
  · split <;> rfl

theorem portStatusAct_storeView (p : PortId) (named : Option (Byte × List Byte)) :
    (portStatusAct p named s).1.storeView = s.storeView := by
  unfold portStatusAct
  split
  · rfl
  · split
    · split
      · exact s.raiseFlag_storeView p .permission
      · rfl
    · rfl

theorem holdAddAct_storeView (p : PortId) (scope reason : Byte) :
    (holdAddAct p scope reason s).1.storeView = s.storeView := by
  unfold holdAddAct
  split
  · rfl
  · split
    · rfl
    · dsimp only
      split
      · rfl
      · split
        · rfl
        · exact State.blockGrants_storeView _ _

theorem State.removeHolds_storeView (f : Hold → Bool) :
    (s.removeHolds f).storeView = s.storeView := by
  unfold State.removeHolds
  dsimp only
  split <;> rfl

theorem holdRemoveAct_storeView (p : PortId) (scope reason : Byte) :
    (holdRemoveAct p scope reason s).1.storeView = s.storeView := by
  unfold holdRemoveAct
  split
  · rfl
  · split
    · rfl
    · exact s.removeHolds_storeView _

theorem State.closeShot_storeView : s.closeShot.storeView = s.storeView := by
  unfold State.closeShot
  split
  · rfl
  · refine (State.advance_storeView _ _ .closed).trans ?_
    split
    · rfl
    · exact s.addExc_storeView _ .closedUnpermitted

@[simp] theorem State.pressForce_storeView (force : Nat) (y : Bay) :
    (s.pressForce force y).storeView = s.storeView := by
  unfold State.pressForce
  split
  · rfl
  · next hget =>
    split
    · exact s.setSlot_some_storeView _ hget
    · rfl

@[simp] theorem State.openShot_storeView (y : Bay) : (s.openShot y).storeView = s.storeView := by
  unfold State.openShot
  split <;> simp

/-- R109: none of the seven steps of a press report reaches the store. -/
theorem State.reportPress_storeView (x : PressState) (force : Option Nat) :
    (s.reportPress x force).storeView = s.storeView := by
  cases force <;> simp only [State.reportPress, apply_ite State.storeView,
    State.promoteBoth_storeView, State.openShot_storeView, State.pressForce_storeView,
    State.closeShot_storeView, State.withdrawClose_storeView, State.withdrawShuttle_storeView,
    State.setPress_storeView, ite_self]

theorem reportPressAct_storeView (state : Byte) (force : Option (BitVec 16)) :
    (reportPressAct state force s).1.storeView = s.storeView := by
  unfold reportPressAct
  split
  · rfl
  · exact s.reportPress_storeView _ _

theorem closeRequestAct_storeView : (closeRequestAct s).1.storeView = s.storeView := by
  unfold closeRequestAct
  split
  · rfl
  · split <;> rfl

theorem State.requestShuttle_storeView (y : Bay) :
    (s.requestShuttle y).1.storeView = s.storeView := by
  unfold State.requestShuttle
  split
  · rfl
  · exact State.setPosition_storeView _ .moving

theorem shuttleRequestAct_storeView (target : Byte) :
    (shuttleRequestAct target s).1.storeView = s.storeView := by
  unfold shuttleRequestAct
  split
  · rfl
  · exact (State.requestShuttle_storeView _ _).trans s.wake_storeView

theorem shuttleDoneAct_storeView (position : Byte) :
    (shuttleDoneAct position s).1.storeView = s.storeView := by
  unfold shuttleDoneAct
  split
  · rfl
  · split
    · rfl
    · exact (State.promoteBoth_storeView _).trans (State.setPosition_storeView _ _)

theorem State.enterArea_storeView (u : AreaUser) (r : Area) :
    (s.enterArea u r).1.storeView = s.storeView := by
  unfold State.enterArea
  dsimp only
  repeat' split
  all_goals rfl

theorem areaEnterAct_storeView (p : PortId) (area : Byte) :
    (areaEnterAct p area s).1.storeView = s.storeView := by
  unfold areaEnterAct
  split
  · rfl
  · rfl
  · exact (State.enterArea_storeView _ _ _).trans s.wake_storeView

@[simp] theorem State.releaseArea_storeView (u : AreaUser) (r : Area) :
    (s.releaseArea u r).storeView = s.storeView := by
  unfold State.releaseArea
  dsimp only
  split
  · exact State.stopEject_storeView _ .areaReleased
  · rfl

theorem State.leaveArea_storeView (u : AreaUser) (r : Area) :
    (s.leaveArea u r).1.storeView = s.storeView := by
  unfold State.leaveArea
  dsimp only
  split
  · simp
  · split <;> rfl

theorem areaLeaveAct_storeView (p : PortId) (area : Byte) :
    (areaLeaveAct p area s).1.storeView = s.storeView := by
  unfold areaLeaveAct
  split
  · rfl
  · rfl
  · exact s.leaveArea_storeView _ _

theorem forceLeaveAct_storeView (area : Byte) :
    (forceLeaveAct area s).1.storeView = s.storeView := by
  unfold forceLeaveAct
  split
  · rfl
  · split
    · rfl
    · simp

/-! ### The requests of the LOADER and of the take-out unit -/

theorem weighPieceAct_storeView (bay : Byte) : (weighPieceAct bay s).1.storeView = s.storeView := by
  unfold weighPieceAct
  split
  · rfl
  · split
    · rfl
    · split
      · rfl
      · split
        · rfl
        · exact State.endDead_storeView _

theorem weighCancelAct_storeView : (weighCancelAct s).1.storeView = s.storeView := by
  unfold weighCancelAct
  split <;> rfl

theorem tareAct_storeView (p : PortId) : (tareAct p s).1.storeView = s.storeView := by
  unfold tareAct
  split
  · rfl
  · exact State.endDead_storeView _

theorem removePieceAct_storeView (bay : Byte) :
    (removePieceAct bay s).1.storeView = s.storeView := by
  unfold removePieceAct
  split
  · rfl
  · split
    · rfl
    · next hok => exact s.setSlot_some_storeView _ (State.judgeList_ok hok)

theorem discardChargeAct_storeView (bay : Byte) :
    (discardChargeAct bay s).1.storeView = s.storeView := by
  unfold discardChargeAct
  split
  · rfl
  · split
    · rfl
    · next hok => exact s.setSlot_some_storeView _ (State.judgeList_ok hok)

theorem State.finishCharge_storeView (y : Bay) (sh : Shot) :
    (s.finishCharge y sh).1.storeView = s.storeView := by
  unfold State.finishCharge
  split
  · rfl
  · split
    · rfl
    · split
      · rfl
      · exact s.advance_storeView y .charged

theorem chargeDoneAct_storeView (bay : Byte) : (chargeDoneAct bay s).1.storeView = s.storeView := by
  unfold chargeDoneAct
  split
  · rfl
  · split
    · rfl
    · exact s.finishCharge_storeView _ _

theorem ejectBeginAct_storeView (bay : Byte) : (ejectBeginAct bay s).1.storeView = s.storeView := by
  unfold ejectBeginAct
  split
  · rfl
  · split
    · rfl
    · split
      · rfl
      · split
        · rfl
        · split
          · rfl
          · split
            · rfl
            · exact s.startEject_storeView _ _

theorem ejectEndAct_storeView (bay : Byte) : (ejectEndAct bay s).1.storeView = s.storeView := by
  unfold ejectEndAct
  split
  · rfl
  · split
    · exact s.closeEject_storeView _ false
    · rfl

theorem State.noteDamage_storeView (y : Bay) (damaged : Bool) :
    (s.noteDamage y damaged).storeView = s.storeView := by
  unfold State.noteDamage
  split <;> simp

/-! ### The requests on recipes and moulds, the heat block's and LINE's own -/

theorem recipeWriteAct_storeView (slot : Byte) (fields : RawRecipe) :
    (recipeWriteAct slot fields s).1.storeView = s.storeView := by
  unfold recipeWriteAct
  split
  · rfl
  · split
    · rfl
    · split
      · rfl
      · exact State.rederiveZones_storeView _

theorem recipeEraseAct_storeView (slot : Byte) :
    (recipeEraseAct slot s).1.storeView = s.storeView := by
  unfold recipeEraseAct
  split
  · rfl
  · dsimp only
    repeat' split
    all_goals rfl

theorem State.bindBay_storeView (y : Bay) (mould : Nat) (i : Ix16) :
    (s.bindBay y mould i).storeView = s.storeView := by
  unfold State.bindBay
  refine (State.rederiveZones_storeView _).trans ?_
  split
  · rfl
  · exact State.setMouldCheck_storeView _ y false

theorem bayBindAct_storeView (bay : Byte) (mould : BitVec 16) (slot : Byte) :
    (bayBindAct bay mould slot s).1.storeView = s.storeView := by
  unfold bayBindAct
  split
  · split
    · rfl
    · split
      · rfl
      · exact s.bindBay_storeView _ _ _
  · rfl

theorem bayUnbindAct_storeView (bay : Byte) : (bayUnbindAct bay s).1.storeView = s.storeView := by
  unfold bayUnbindAct
  split
  · rfl
  · split
    · rfl
    · split
      · rfl
      · exact State.rederiveZones_storeView _

theorem releaseAppliedAct_storeView (p : PortId) (target : Byte) :
    (releaseAppliedAct p target s).1.storeView = s.storeView := by
  unfold releaseAppliedAct
  repeat' split
  all_goals rfl

theorem mouldCheckedAct_storeView (bay : Byte) :
    (mouldCheckedAct bay s).1.storeView = s.storeView := by
  unfold mouldCheckedAct
  split
  · rfl
  · exact s.setMouldCheck_storeView _ false

theorem State.abortShot_storeView (y : Bay) : (s.abortShot y).storeView = s.storeView := by
  have hweigh : (s.abortWeigh y).storeView = s.storeView := by
    unfold State.abortWeigh
    split <;> rfl
  have hclose : ((s.abortWeigh y).abortClose y).storeView = s.storeView := by
    obtain ⟨_, heq⟩ := (s.abortWeigh y).abortClose_shape y
    exact heq ▸ hweigh
  have heject : (((s.abortWeigh y).abortClose y).abortEject y).storeView = s.storeView := by
    unfold State.abortEject
    split
    · exact (State.mapShot_storeView _ y _).trans hclose
    · exact hclose
  exact (State.addExc_storeView _ y .aborted).trans heject

theorem serialBaseAct_storeView (value : BitVec 32) :
    (serialBaseAct value s).1.storeView = s.storeView := by
  unfold serialBaseAct
  split <;> rfl

theorem heatModeAct_storeView (code : Byte) : (heatModeAct code s).1.storeView = s.storeView := by
  have hcancel : s.cancelPark.storeView = s.storeView := by
    unfold State.cancelPark
    split <;> rfl
  unfold heatModeAct
  split
  · rfl
  · exact (State.setMode_storeView _ _).trans hcancel

theorem parkAct_storeView : (parkAct s).1.storeView = s.storeView := by
  unfold parkAct
  split
  · rfl
  · split
    · exact s.setMode_storeView .off
    · rfl

theorem zoneAct_storeView (zone : Byte) (v : Bool) :
    (zoneAct zone v s).1.storeView = s.storeView :=
  State.rederiveZones_storeView _

@[simp] theorem State.restartTimer_storeView (old : Cfg) (p : PortId) :
    (s.restartTimer old p).storeView = s.storeView := by
  unfold State.restartTimer
  dsimp only
  split <;> rfl

theorem State.storeItem_storeView (i : Item) : (s.storeItem i).storeView = s.storeView := by
  unfold State.storeItem
  simp only [State.restartTimer_storeView]
  split
  · split <;> rfl
  · rw [State.rederiveZones_storeView]
    split <;> rfl

theorem configSetAct_storeView (tag : Byte) (data : List Byte) :
    (configSetAct tag data s).1.storeView = s.storeView := by
  unfold configSetAct
  split
  · rfl
  · split
    · rfl
    · exact s.storeItem_storeView _

theorem State.enterWarning_storeView : s.enterWarning.storeView = s.storeView := by
  unfold State.enterWarning
  split
  · exact (State.blockGrants_storeView _ .cell).trans (State.setPowerWarn_storeView _ true)
  · rfl

theorem State.leaveWarning_storeView : s.leaveWarning.storeView = s.storeView := by
  unfold State.leaveWarning
  split
  · exact State.setPowerWarn_storeView _ false
  · rfl

end Frames

/-! ### What moves the store -/

section Moves

variable (s : State)

/-- R160: whichever of its cases applies, the judgement makes the flag say what the count does. -/
theorem State.judgeNearFull_storeView : s.judgeNearFull.storeView = s.storeView.judged := by
  unfold State.judgeNearFull StoreView.judged nearFullAt
  split
  · next hstopped => exact (if_neg hstopped).symm
  · next hrunning =>
    rw [if_pos (show s.storeView.phase = .running from Decidable.not_not.1 hrunning)]
    split
    · next hfull =>
      obtain ⟨-, hfull⟩ := Bool.and_eq_true_iff.1 hfull
      rw [StoreView.derived_eq (decide_eq_false (Nat.not_lt.2 (of_decide_eq_true hfull)))]
      rfl
    · next hkept =>
      split
      · next hbelow =>
        obtain ⟨-, hbelow⟩ := Bool.and_eq_true_iff.1 hbelow
        rw [StoreView.derived_eq hbelow]
        rfl
      · next hraised =>
        have hsays : decide (s.history.pending < 448) = s.history.armed := by
          cases harmed : s.history.armed with
          | false => simpa [harmed] using hraised
          | true => simpa [harmed] using hkept
        rw [StoreView.derived_eq hsays]
        rfl

/-- R15: one more open shot. -/
theorem State.openShots_setSlot_some {y : Bay} (sh : Shot) (hfree : s.slots.get y = none) :
    (s.setSlot y (some sh)).openShots = s.openShots + 1 := by
  cases y <;> simp [State.openShots, hfree, Nat.add_comm]

/-- R21: one open shot less. -/
theorem State.openShots_setSlot_none {y : Bay} {sh : Shot} (hget : s.slots.get y = some sh) :
    (s.setSlot y none).openShots = s.openShots - 1 ∧ 0 < s.openShots := by
  cases y <;> simp only [State.openShots, State.setSlot_slots, PerBay.get_set, hget,
    Option.isSome_some, Option.isSome_none, reduceCtorEq, ↓reduceIte, Bool.false_eq_true] <;> omega

/-- R14, check 6: a CHARGE BEGIN that passes finds room to file its shot. -/
theorem State.judgeCharge_room {y : Bay} {x : Nat × Ix16 × Recipe}
    (hok : s.judgeCharge y = .ok x) : s.history.pending + s.openShots < 512 := by
  unfold State.judgeCharge at hok
  split at hok
  · cases hok
  · split at hok
    · cases hok
    · split at hok
      · split at hok
        · cases hok
        · split at hok
          · cases hok
          · split at hok
            · cases hok
            · next hroom => exact Nat.lt_of_not_le hroom
      · cases hok

theorem State.openCharge_runs {y : Bay} (n : Nat) (i : Ix16) (r : Recipe)
    (hfree : s.slots.get y = none) (hroom : s.history.pending + s.openShots < 512) :
    RunsStore s (s.openCharge y n i r) := by
  have hview : (s.openCharge y n i r).storeView
      = { s.storeView with openShots := s.storeView.openShots + 1 } := by
    unfold State.openCharge
    exact congrArg (StoreView.mk s.history · s.phase) (s.openShots_setSlot_some _ hfree)
  exact .of_move (hview ▸ .opened hroom)

theorem chargeBeginAct_runs (bay : Byte) : RunsStore s (chargeBeginAct bay s).1 := by
  unfold chargeBeginAct
  split
  · exact .refl s
  · have hwake : RunsStore s s.wake := .of_view s.wake_storeView
    split
    · exact hwake
    · next hok =>
      obtain ⟨-, hfree⟩ := State.judgeCharge_ok hok
      exact hwake.trans (State.openCharge_runs _ _ _ _ (Option.map_eq_none_iff.1 hfree)
        (State.judgeCharge_room _ hok))

/-- R20 to R23: of the steps of a filing the placing with its judgement moves the store. -/
theorem State.fileShot_runs (y : Bay) (o : ShotOutcome) : RunsStore s (s.fileShot y o) := by
  unfold State.fileShot
  split
  · exact .refl s
  · next sh hget =>
    obtain ⟨hless, hopen⟩ := s.openShots_setSlot_none hget
    have hplaced : (State.judgeNearFull
        { State.mapSlotUse { s.setSlot y none with cureMarks := s.cureMarks.set y none }
            sh.recipeSlot (· - 1) with history := s.history.place sh o }).storeView
        = { s.storeView with history := s.history.place sh o
                             openShots := s.openShots - 1 : StoreView }.judged :=
      (State.judgeNearFull_storeView _).trans
        (congrArg (fun n => StoreView.judged ⟨s.history.place sh o, n, s.phase⟩) hless)
    refine RunsStore.then_view (.of_move (hplaced ▸ StoreMove.filed sh o hopen)) ?_
    refine (State.completePark_storeView _).trans ?_
    dsimp only
    split
    · exact (State.withdrawIfDue_storeView _ _).trans (State.raiseCounts_storeView _ y sh)
    · rfl

theorem partTakenAct_runs (bay condition : Byte) :
    RunsStore s (partTakenAct bay condition s).1 := by
  unfold partTakenAct
  split
  · split
    · exact .refl s
    · split
      · exact .refl s
      · exact .from_view (s.noteDamage_storeView _ _) (State.fileShot_runs _ _ .completed)
  · exact .refl s

theorem shotAbortAct_runs (bay : Byte) : RunsStore s (shotAbortAct bay s).1 := by
  unfold shotAbortAct
  split
  · exact .refl s
  · split
    · exact .refl s
    · exact .from_view (s.abortShot_storeView _) (State.fileShot_runs _ _ .aborted)

theorem historyAckAct_runs (serial : BitVec 32) : RunsStore s (historyAckAct serial s).1 := by
  unfold historyAckAct
  split
  · exact .refl s
  · next i r hhead =>
    split
    · exact .refl s
    · have hview : (s.ackHead i r).storeView
          = (s.storeView.write i r.taken (s.storeView.history.pending - 1)).judged :=
        State.judgeNearFull_storeView _
      exact .of_move (hview ▸ .acknowledged (History.head_getElem? hhead) (lowestFrom_passes hhead))

/-- R157: the effects of an accepted DISPOSITION SET. -/
theorem State.dispose_runs {i : Nat} {r : Record} (d : Disposition)
    (hget : s.history.slots[i]? = some r) (hhold : r.verdict = .hold)
    (hfirst : r.disposition = none)
    (hroom : r.isTaken = true → s.history.pending + s.openShots < 512) :
    RunsStore s (s.dispose i r d) := by
  refine .of_move ?_
  unfold State.dispose
  dsimp only
  split
  · next htaken =>
    rw [State.judgeNearFull_storeView]
    exact .requeued d s.stamp hget hhold hfirst htaken (hroom htaken)
  · next hpending => exact .disposed d s.stamp hget hhold hfirst (Bool.eq_false_iff.2 hpending)

theorem dispositionSetAct_runs (serial : BitVec 32) (disposition : Byte) :
    RunsStore s (dispositionSetAct serial disposition s).1 := by
  unfold dispositionSetAct
  split
  · exact .refl s
  · next d _ =>
    split
    · exact .refl s
    · next i r hfind =>
      split
      · exact .refl s
      · next hhold =>
        split
        · exact .refl s
        · next hfirst =>
          split
          · exact .refl s
          · next hroom =>
            refine s.dispose_runs d (History.find_getElem? hfind) (Decidable.not_not.1 hhold) ?_ ?_
            · simpa using hfirst
            · exact fun htaken => Nat.lt_of_not_le fun hfull => hroom ⟨htaken, hfull⟩

/-! ### Starts -/

theorem State.halt_runs : RunsStore s s.halt :=
  .of_move (StoreMove.halted .stopped (by simp))

theorem State.beginStart_runs (cause : StartKind) : RunsStore s (s.beginStart cause) :=
  .of_move (StoreMove.halted (.starting _) (by simp))

/-- R20, R193: the filings of a warm start. -/
theorem State.startFilings_runs (k : StartKind) : RunsStore s (s.startFilings k) :=
  RunsStore.trans
    (.from_view (s.addExc_storeView .a _) (State.fileShot_runs _ .a .interrupted))
    (.from_view (State.addExc_storeView _ .b _) (State.fileShot_runs _ .b .interrupted))

theorem State.deriveNearFull_storeView : s.deriveNearFull.storeView = s.storeView.derived := by
  unfold State.deriveNearFull nearFullAt
  split
  · next hfull =>
    rw [StoreView.derived_eq (decide_eq_false (Nat.not_lt.2 hfull))]
    rfl
  · next hbelow =>
    rw [StoreView.derived_eq (decide_eq_true (Nat.lt_of_not_le hbelow))]
    rfl

theorem State.startNotices_storeView (k : StartKind) :
    (s.startNotices k).storeView = s.storeView.derived := by
  unfold State.startNotices
  rw [State.deriveNearFull_storeView]
  repeat' split
  all_goals rfl

theorem State.startHeat_storeView (x : HeatMode) : (s.startHeat x).storeView = s.storeView :=
  State.rederiveZones_storeView _

/-- R193: a start ends on the store that its filings, or its clearing, leave. -/
theorem State.endStart_storeView (k : StartKind) (image : List Byte) :
    (s.endStart k image).storeView = { (State.storeView
      (if k = .cold then (s.setUpBlocks (loadImage image)).coldRetained
        else (s.setUpBlocks (loadImage image)).startFilings k)).derived with phase := .running } := by
  unfold State.endStart
  change { (State.startNotices (State.startSupply _) k).storeView with phase := .running } = _
  rw [State.startNotices_storeView]
  change { (State.startHeat _ _).storeView.derived with phase := .running } = _
  rw [State.startHeat_storeView]
  rfl

/-- R190, R193: a cold start clears the store. -/
theorem State.endStart_cold (image : List Byte) :
    (s.endStart .cold image).storeView = StoreView.cold :=
  s.endStart_storeView .cold image

/-- R20, R193: a warm start files the open shots and derives the flag. -/
theorem State.endStart_runs {k : StartKind} (hwarm : k ≠ .cold) (image : List Byte) :
    RunsStore s (s.endStart k image) := by
  have hview := s.endStart_storeView k image
  rw [if_neg hwarm] at hview
  refine RunsStore.trans (t := (s.setUpBlocks (loadImage image)).startFilings k) ?_
    (.of_move (hview ▸ .started))
  exact .from_view (t := s.setUpBlocks (loadImage image)) rfl (State.startFilings_runs _ k)

end Moves

/-! ### The commands -/

section Commands

variable {s t : State}

theorem RunsStore.event {f : State → State} (hf : RunsStore s (f s)) : RunsStore s (s.event f) :=
  .ite _ (hf.then_view (State.settle_storeView _ s)) (.refl s)

/-- R178, step 4: a request runs the store as its owner's act does. -/
theorem RunsStore.serve {p : PortId} {i : Instr} {act : State → State × Reply}
    (hact : RunsStore s (act s).1) : RunsStore s (s.serve p i act) :=
  .event (.ite _ (hact.then_view (State.setBuffer_storeView _ p _)) (.refl s))

/-- A request whose owner's act leaves the store as it is. -/
theorem RunsStore.serve_view {p : PortId} {i : Instr} {act : State → State × Reply}
    (hact : (act s).1.storeView = s.storeView) : RunsStore s (s.serve p i act) :=
  .serve (.of_view hact)

/-- An event that leaves the store as it is. -/
theorem RunsStore.event_view {f : State → State} (hf : (f s).storeView = s.storeView) :
    RunsStore s (s.event f) :=
  .event (.of_view hf)

/-- Every command but the end of a configuration load takes the store through the moves. -/
theorem exec_runsStore (s : State) (c : Instr) (hc : ∀ image, c ≠ .configLoadEnd image) :
    ∃ u, exec c s = .next u ∧ RunsStore s u := by
  cases c with
  | nop | identify | readShot | readBay | readZone | readCell | recipeRead | historyFind | readNode
  | historyNext => exact ⟨_, rfl, .serve (.refl s)⟩
  | clockSet => exact ⟨_, rfl, .serve_view rfl⟩
  | readNotice p => exact ⟨_, rfl, .serve_view (readNoticeAct_storeView s p)⟩
  | subscribe p level codes => exact ⟨_, rfl, .serve_view (subscribeAct_storeView s p level codes)⟩
  | portStatus p named => exact ⟨_, rfl, .serve_view (portStatusAct_storeView s p named)⟩
  | holdAdd p scope reason => exact ⟨_, rfl, .serve_view (holdAddAct_storeView s p scope reason)⟩
  | holdRemove p scope reason =>
    exact ⟨_, rfl, .serve_view (holdRemoveAct_storeView s p scope reason)⟩
  | holdClear => exact ⟨_, rfl, .serve_view (s.removeHolds_storeView _)⟩
  | reportPress p state force => exact ⟨_, rfl, .serve_view (reportPressAct_storeView s state force)⟩
  | closeRequest => exact ⟨_, rfl, .serve_view (closeRequestAct_storeView s)⟩
  | shuttleRequest p target => exact ⟨_, rfl, .serve_view (shuttleRequestAct_storeView s target)⟩
  | shuttleDone p position => exact ⟨_, rfl, .serve_view (shuttleDoneAct_storeView s position)⟩
  | areaEnter p area => exact ⟨_, rfl, .serve_view (areaEnterAct_storeView s p area)⟩
  | areaLeave p area => exact ⟨_, rfl, .serve_view (areaLeaveAct_storeView s p area)⟩
  | forceLeave p area => exact ⟨_, rfl, .serve_view (forceLeaveAct_storeView s area)⟩
  | chargeBegin p bay => exact ⟨_, rfl, .serve (chargeBeginAct_runs s bay)⟩
  | weighPiece p bay => exact ⟨_, rfl, .serve_view (weighPieceAct_storeView s bay)⟩
  | weighCancel => exact ⟨_, rfl, .serve_view (weighCancelAct_storeView s)⟩
  | removePiece p bay => exact ⟨_, rfl, .serve_view (removePieceAct_storeView s bay)⟩
  | discardCharge p bay => exact ⟨_, rfl, .serve_view (discardChargeAct_storeView s bay)⟩
  | chargeDone p bay => exact ⟨_, rfl, .serve_view (chargeDoneAct_storeView s bay)⟩
  | tare p => exact ⟨_, rfl, .serve_view (tareAct_storeView s p)⟩
  | ejectBegin p bay => exact ⟨_, rfl, .serve_view (ejectBeginAct_storeView s bay)⟩
  | ejectEnd p bay => exact ⟨_, rfl, .serve_view (ejectEndAct_storeView s bay)⟩
  | partTaken p bay condition => exact ⟨_, rfl, .serve (partTakenAct_runs s bay condition)⟩
  | releaseApplied p target =>
    exact ⟨_, rfl, .serve_view (releaseAppliedAct_storeView s p target)⟩
  | recipeWrite p slot fields =>
    exact ⟨_, rfl, .serve_view (recipeWriteAct_storeView s slot fields)⟩
  | recipeErase p slot => exact ⟨_, rfl, .serve_view (recipeEraseAct_storeView s slot)⟩
  | bayBind p bay mould slot => exact ⟨_, rfl, .serve_view (bayBindAct_storeView s bay mould slot)⟩
  | bayUnbind p bay => exact ⟨_, rfl, .serve_view (bayUnbindAct_storeView s bay)⟩
  | mouldChecked p bay => exact ⟨_, rfl, .serve_view (mouldCheckedAct_storeView s bay)⟩
  | shotAbort p bay => exact ⟨_, rfl, .serve (shotAbortAct_runs s bay)⟩
  | serialBase p value => exact ⟨_, rfl, .serve_view (serialBaseAct_storeView s value)⟩
  | heatMode p code => exact ⟨_, rfl, .serve_view (heatModeAct_storeView s code)⟩
  | park => exact ⟨_, rfl, .serve_view (parkAct_storeView s)⟩
  | zoneEnable p zone => exact ⟨_, rfl, .serve_view (zoneAct_storeView s zone true)⟩
  | zoneDisable p zone => exact ⟨_, rfl, .serve_view (zoneAct_storeView s zone false)⟩
  | historyAck p serial => exact ⟨_, rfl, .serve (historyAckAct_runs s serial)⟩
  | dispositionSet p serial disposition =>
    exact ⟨_, rfl, .serve (dispositionSetAct_runs s serial disposition)⟩
  | configSet p tag data => exact ⟨_, rfl, .serve_view (configSetAct_storeView s tag data)⟩
  | frameStart p =>
    refine ⟨_, rfl, ?_⟩
    split <;> exact .of_view rfl
  | frameEnd p bytes spare => exact ⟨_, rfl, .of_view (s.frameEnds_storeView p bytes spare)⟩
  | frameTimeout held =>
    exact ⟨_, rfl, .of_view (s.frameExpires_storeView held.port held.clocked)⟩
  | unknownCode p code params =>
    exact ⟨_, rfl, .ite _ (.of_view (s.frameEnds_storeView p _ 0)) (.refl s)⟩
  | resultReturn p => exact ⟨_, rfl, .event_view (s.returnResult_storeView p)⟩
  | noticeAge => exact ⟨_, rfl, .event_view rfl⟩
  | silenceTimerExpiry p => exact ⟨_, rfl, .event_view (s.silenceExpires_storeView p)⟩
  | heatPeriod => exact ⟨_, rfl, .event_view s.heatPeriod_storeView⟩
  | idleTimerExpiry => exact ⟨_, rfl, .event_view s.idleExpires_storeView⟩
  | heaterSwitchOff z => exact ⟨_, rfl, .event_view (s.switchOff_storeView z)⟩
  | roundBegin => exact ⟨_, rfl, .event_view s.beginRound_storeView⟩
  | pollReply r => exact ⟨_, rfl, .event_view (s.takeReply_storeView r)⟩
  | replyTimeout => exact ⟨_, rfl, .event_view s.missReply_storeView⟩
  | weighTimerExpiry => exact ⟨_, rfl, .event_view s.weighExpires_storeView⟩
  | ejectionTimerExpiry => exact ⟨_, rfl, .event_view s.ejectExpires_storeView⟩
  | pfwarnAsserted =>
    exact ⟨_, rfl, .from_view (t := { s with pins.pfwarn := true }) rfl
      (.event_view (State.enterWarning_storeView _))⟩
  | pfwarnDeasserted =>
    exact ⟨_, rfl, .from_view (t := { s with pins.pfwarn := false }) rfl
      (.event_view (State.leaveWarning_storeView _))⟩
  | mainLoss =>
    exact ⟨_, rfl, .from_view (t := { s with pins.main := false }) rfl (State.halt_runs _)⟩
  | resetAsserted =>
    exact ⟨_, rfl, .from_view (t := { s with pins.reset := true }) rfl (State.halt_runs _)⟩
  | retainLoss | clk32Stopped | clk32Resumed => exact ⟨_, rfl, .of_view rfl⟩
  | cellTimeSecond => exact ⟨_, rfl, .ite _ (.of_view rfl) (.refl s)⟩
  | restart => exact ⟨_, rfl, .ite _ (s.beginStart_runs .restart) (.refl s)⟩
  | resetReleased =>
    have hreleased : RunsStore s { s with pins.reset := false } := .of_view rfl
    exact ⟨_, rfl, .ite _ (hreleased.trans (State.beginStart_runs _ .resetLine)) hreleased⟩
  | mainRise =>
    have hrisen : RunsStore s { s with pins.main := true } := .of_view rfl
    exact ⟨_, rfl, .ite _ (.refl s)
      (.ite _ hrisen (hrisen.trans (State.beginStart_runs _ .mainLoss)))⟩
  | configLoadEnd image => exact absurd rfl (hc image)

/-- R193: the end of a configuration load runs the store too, or clears it at a cold start. -/
theorem execConfigLoadEnd_store (s : State) (image : List Byte) :
    ∃ u, exec (.configLoadEnd image) s = .next u
      ∧ (RunsStore s u ∨ u.storeView = StoreView.cold) := by
  refine ⟨_, rfl, ?_⟩
  split
  · next k _ =>
    by_cases hcold : k = .cold
    · subst hcold
      exact .inr (s.endStart_cold image)
    · exact .inl (s.endStart_runs hcold image)
  · exact .inl (.refl s)
  · exact .inl (.refl s)

/-- All that a step can do to the store. -/
theorem step_store (hstep : step s = .next t) :
    RunsStore s t ∨ t.storeView = StoreView.cold := by
  unfold Machine.step at hstep
  split at hstep
  · cases hstep
    exact .inl (.refl s)
  · next c rest _ =>
    have hexec : ∃ u, exec c { s with pending := rest } = .next u
        ∧ (RunsStore { s with pending := rest } u ∨ u.storeView = StoreView.cold) := by
      by_cases hload : ∃ image, c = .configLoadEnd image
      · obtain ⟨image, rfl⟩ := hload
        exact execConfigLoadEnd_store _ image
      · obtain ⟨u, hu, hruns⟩ := exec_runsStore _ c fun image heq => hload ⟨image, heq⟩
        exact ⟨u, hu, .inl hruns⟩
    obtain ⟨u, hu, hstore⟩ := hexec
    cases hu.symm.trans hstep
    exact hstore

/-- R159: every step keeps the counts. -/
theorem StoreLaw.step (h : StoreLaw s) (hstep : step s = .next t) : StoreLaw t := by
  rw [storeLaw_iff] at h ⊢
  obtain hruns | hcold := step_store hstep
  · exact StoreMoves.lawful hruns h
  · exact hcold ▸ StoreView.Lawful.cold

/-- R160: every step keeps the near-full flag. -/
theorem ArmedLaw.step (h : ArmedLaw s) (hstep : step s = .next t) : ArmedLaw t := by
  rw [armedLaw_iff] at h ⊢
  obtain hruns | hcold := step_store hstep
  · exact StoreMoves.armed hruns h
  · rw [hcold]
    exact fun _ => ⟨fun _ => Nat.zero_lt_succ _, fun _ => rfl⟩

/-- R150, R158: a step lets the store grow, or a cold start leaves no record. -/
theorem step_grows (hstep : step s = .next t) :
    s.history.Grows t.history ∨ t.history.slots = [] := by
  obtain hruns | hcold := step_store hstep
  · exact .inl (StoreMoves.grows hruns)
  · exact .inr (congrArg (fun v => v.history.slots) hcold)

/-- R158: every step keeps the law of the verdicts. -/
theorem VerdictLaw.step (h : VerdictLaw s) (hstep : step s = .next t) : VerdictLaw t := by
  rw [verdictLaw_iff] at h ⊢
  intro r' hr'
  obtain hgrows | hnone := step_grows hstep
  · obtain ⟨r, hr, hlater⟩ | ⟨-, hsound⟩ := hgrows.records r' hr'
    · exact hlater.sound (h r hr)
    · exact hsound
  · exact absurd (hnone ▸ hr' : r' ∈ []) List.not_mem_nil

/-- R150: a filing number names one record of a store. -/
theorem Record.eq_of_filingNo {l : List Record} (hdistinct : (l.map Record.filingNo).Nodup)
    {r r' : Record} (hr : r ∈ l) (hr' : r' ∈ l) (hno : r.filingNo = r'.filingNo) : r = r' := by
  obtain ⟨i, hi, rfl⟩ := List.getElem_of_mem hr
  obtain ⟨j, hj, rfl⟩ := List.getElem_of_mem hr'
  have hi' : i < (l.map Record.filingNo).length := by rwa [List.length_map]
  have hj' : j < (l.map Record.filingNo).length := by rwa [List.length_map]
  have hmap : (l.map Record.filingNo)[i] = (l.map Record.filingNo)[j] := by
    rwa [List.getElem_map, List.getElem_map]
  obtain rfl := (List.getElem_inj hdistinct).1 hmap
  rfl

/-- R158: a record that keeps its filing number over a step is the same record, later: numbers are
distinct, and a filing takes one above them all. -/
theorem StoreLaw.continues (h : StoreLaw s) (hstep : Machine.step s = .next t) {r r' : Record}
    (hr : r ∈ s.history.slots) (hr' : r' ∈ t.history.slots) (hno : r'.filingNo = r.filingNo) :
    r.Continues r' := by
  obtain ⟨-, -, hdistinct, hbounded, -⟩ := h
  obtain hgrows | hnone := step_grows hstep
  · obtain ⟨x, hx, hlater⟩ | ⟨hnew, -⟩ := hgrows.records r' hr'
    · have hsame : x = r :=
        Record.eq_of_filingNo hdistinct hx hr (hlater.filingNo.symm.trans hno)
      exact hsame ▸ hlater
    · exact absurd (hno ▸ hnew) (Nat.not_lt.2 (hbounded r hr))
  · exact absurd (hnone ▸ hr' : r' ∈ []) List.not_mem_nil

end Commands

/-- Settles O58: both laws are judged on the moves of the store, and a step makes such moves or ends a
cold start. -/
theorem storeLawIsKept : Obligations.StoreLawIsKept := by
  unfold Obligations.StoreLawIsKept
  exact ⟨fun _ _ h => h.step, fun _ _ h => h.step⟩

/-- Settles O59: a record of the later store continues the one of its filing number, or was filed in
the step with the verdict of its exceptions. -/
theorem verdictsAreFixed : Obligations.VerdictsAreFixed := by
  unfold Obligations.VerdictsAreFixed
  intro s t hstore hverdicts hstep
  refine ⟨hverdicts.step hstep, fun r hr r' hr' hno => ?_⟩
  have hlater := hstore.continues hstep hr hr' hno
  exact ⟨hlater.shot, hlater.outcome, hlater.verdict, hlater.kept⟩

end Sys2Proof.Machine
